-- ==== Sys2Proof/Word.lean ====
section
/-! DEFINITION. The words of DLL-CORE: the byte, the 16-bit CRC word, and the byte string
(spec/00_scope.md section 5). Every other quantity of the block is a length or an index, a natural
number (rule R31). -/

namespace Sys2Proof

/-- A byte: bit 7 is its most significant bit (spec/00_scope.md section 5). -/
abbrev Byte := BitVec 8

/-- A 16-bit value, such as the CRC register (rule R25). -/
abbrev Half := BitVec 16

/-- A byte string, indexed from 0. -/
abbrev Bytes := List Byte

end Sys2Proof
end

