-- ==== Sys2Proof/Config.lean ====
section
/-! DEFINITION. The constants every DLL-CORE has (rule R8) and the configuration record of one
of them (rules R9, R32). The spec leaves nothing undefined inside the block (93_implementation_defined.md
section 1, rule R203), so there is no free value here. -/

namespace Sys2Proof

/-- `FLAG`, the frame delimiter byte (rule R8). -/
def flagByte : Byte := 0x7D

/-- `ESC`, the escape marker byte (rule R8). -/
def escByte : Byte := 0x7E

/-- The escape mask (rule R8). -/
def escMask : Byte := 0x20

/-- `BROADCAST`, the destination every receiver accepts (rules R8, R77). -/
def broadcast : Byte := 0xFF

/-- `PKT_MAX`, the largest payload length SEND accepts (rule R9). -/
abbrev pktMax : Nat := 255

/-- `RAW_MAX`, the largest raw buffer length RECV accepts (rule R9). -/
abbrev rawMax : Nat := 255

/-- The configuration record `cfg` (rule R9) with its legal values and its defaults. It is constant
for the life of one DLL-CORE: no operation writes it (rule R32). A record outside the legal ranges is
no DLL-CORE (rules R203, R252) and cannot be built. `LOCAL_ADDR` has no default. -/
structure Cfg where
  /-- `LOCAL_ADDR`, any byte. -/
  localAddr : Byte
  /-- `C`, the payload capacity of one frame. -/
  capacity : Nat := 8
  /-- `POLY`, coefficients of x^15 down to x^0 (rule R101). -/
  poly : Half := 0x8005
  /-- `REASM_MAX`, the capacity of the reassembly buffer. -/
  reasmMax : Nat := 255
  /-- The legal values of rule R9. -/
  legal : (1 ≤ capacity ∧ capacity ≤ 119) ∧ 0 < poly.toNat ∧ (1 ≤ reasmMax ∧ reasmMax ≤ 255) := by
    decide
deriving DecidableEq, Repr

/-- The record `State.reset` is instantiated with: the defaults of rule R9, and `LOCAL_ADDR` 0x00
(DESIGN CHOICE, notes/assumptions/1.md: the spec gives none). Unsafe for a claim that names this address. -/
def Cfg.default : Cfg := { localAddr := 0x00 }

end Sys2Proof
end

