-- ==== Sys2Proof/Syntax.lean ====
section
/-! DEFINITION. The operations and encodings of DLL-CORE as syntax: one constructor of `Instr` per row of
spec/opcode_table.json, and the transactions that carry them, one kind per encoding the spec has
(30_encoding.md). -/

namespace Sys2Proof

/-- The frame class the two control bytes select (rule R78). -/
inductive FrameClass where
  | single | first | middle | last
deriving DecidableEq, Repr

/-- How a RECV ends (rule R220). -/
inductive Disposition where
  | delivered | buffered | dropAddr | dropQuarantine | dropCrc | dropOverflow | malformed
deriving DecidableEq, Repr

/-- The rows of spec/opcode_table.json, in its order. `control[0]` is written `c0`, `control[1]` `c1`. -/
inductive Instr where
  /-- NOP (rule R201). -/
  | nop
  /-- SEND of a packet to a destination (rule R190). -/
  | send (pkt : Bytes) (dst : Byte)
  /-- RECV of a raw buffer (rule R195). -/
  | recv (raw : Bytes)
  /-- RESET (rule R200). -/
  | reset
  /-- CRC16 of a byte string (rule R100). -/
  | crc16 (s : Bytes)
  /-- CRC.GEN (rule R105). -/
  | crcGen
  /-- CRC.CHK (rule R106). -/
  | crcChk
  /-- PACK (rule R120). -/
  | pack
  /-- STUFF (rule R122). -/
  | stuff
  /-- DESTUFF (rule R125). -/
  | destuff
  /-- UNPACK (rule R128). -/
  | unpack
  /-- FRAG (rules R150 to R152). -/
  | frag
  /-- FILTER (rule R154). -/
  | filter
  /-- GATE (rule R162). -/
  | gate
  /-- REASM (rules R170 to R176). -/
  | reasm
  /-- MSG: a logical message (rule R70). -/
  | msg (c0 c1 src dst len : Byte) (payload : Bytes) (ck0 ck1 : Byte)
  /-- FLAG: a delimiter (rule R73). -/
  | flag
  /-- ESC.FLAG: the escape pair of 0x7D (rule R74). -/
  | escFlag
  /-- ESC.ESC: the escape pair of 0x7E (rule R74). -/
  | escEsc
  /-- ESC.ANY: an escape marker and any byte (rule R75). -/
  | escAny (x : Byte)
  /-- LIT: a body byte other than ESC (rule R75). -/
  | lit (b : Byte)
  /-- SINGLE (rule R170): `control[1] = 0`, any `control[0]`. -/
  | single (c0 : Byte)
  /-- FIRST (rule R171): `control[0] = 0`, `control[1]` not 0. -/
  | first (c1 : Byte)
  /-- LAST (rule R173): both control bytes equal and not 0. -/
  | last (c : Byte)
  /-- MIDDLE (rule R172): every other pair. -/
  | middle (c0 c1 : Byte)
  /-- DELIVERED, code 0 (rule R220). -/
  | delivered
  /-- BUFFERED, code 1 (rule R220). -/
  | buffered
  /-- DROP_ADDR, code 2 (rule R221). -/
  | dropAddr
  /-- DROP_QUARANTINE, code 3 (rule R223). -/
  | dropQuarantine
  /-- DROP_CRC, code 4 (rule R222). -/
  | dropCrc
  /-- DROP_OVERFLOW, code 5 (rule R225). -/
  | dropOverflow
  /-- MALFORMED, code 6 (rule R224). -/
  | malformed
deriving DecidableEq, Repr

/-- The column "format" of spec/opcode_table.json. -/
inductive Format where
  | cmd | engine | msg | wire | ctrl | disp
deriving DecidableEq, Repr

/-- The format of an instruction's row in spec/opcode_table.json. -/
def Instr.format : Instr → Format
  | .nop | .send _ _ | .recv _ | .reset => .cmd
  | .crc16 _ | .crcGen | .crcChk | .pack | .stuff | .destuff | .unpack | .frag => .engine
  | .filter | .gate | .reasm => .engine
  | .msg _ _ _ _ _ _ _ _ => .msg
  | .flag | .escFlag | .escEsc | .escAny _ | .lit _ => .wire
  | .single _ | .first _ | .last _ | .middle _ _ => .ctrl
  | .delivered | .buffered | .dropAddr | .dropQuarantine | .dropCrc => .disp
  | .dropOverflow | .malformed => .disp

/-- An engine operation. It has no code of its own (opcode_table.json: "internal engine operation: has
no command code"), so its transaction names it. -/
inductive EngineOp where
  | crc16 (s : Bytes)
  | crcGen | crcChk | pack | stuff | destuff | unpack | frag | filter | gate | reasm
deriving DecidableEq, Repr

/-- What the block can be presented with: the operation of one command transaction (rule R33), or, for the
encodings that live inside an operation, the bits of that encoding. Only `cmd` is a host's
(notes/assumptions/4.md). -/
inductive Transaction where
  /-- The command channel: the 2-bit code, the byte string operand (`pkt` or `raw`) and `dst`
  (rules R33, R80, R81). -/
  | cmd (code : BitVec 2) (data : Bytes) (dst : Byte)
  /-- An engine operation, by name (rule R14). -/
  | engine (op : EngineOp)
  /-- A logical message (rule R70). -/
  | msg (bytes : Bytes)
  /-- The byte at a delimiter position, the first or last of a raw buffer (rule R73). -/
  | delim (b : Byte)
  /-- One encoded byte of the body of a stuffed frame (rules R74, R75). -/
  | body (bytes : Bytes)
  /-- The two control bytes (rule R78). -/
  | ctrl (c0 c1 : Byte)
  /-- A 3-bit disposition code (rule R220). -/
  | disp (code : BitVec 3)
deriving DecidableEq, Repr

/-- The format a transaction carries. -/
def Transaction.format : Transaction → Format
  | .cmd _ _ _ => .cmd
  | .engine _ => .engine
  | .msg _ => .msg
  | .delim _ | .body _ => .wire
  | .ctrl _ _ => .ctrl
  | .disp _ => .disp

end Sys2Proof
end

