-- ==== Sys2Proof/WellFormed.lean ====
section
/-! DEFINITION. Which terms of `Instr` are instructions: operands within the bounds of rules R33 and R191,
fields that agree with one another (rule R72), and, where two rows of the table overlap, the row that
names the encoding (rules R74, R78). -/

namespace Sys2Proof

/-- The checks on an instruction, constructor by constructor. -/
def Instr.wellFormed : Instr → Bool
  | .send pkt _ => decide (pkt.length ≤ pktMax)
  | .recv raw => decide (raw.length ≤ rawMax)
  | .msg _ _ _ _ len payload _ _ => decide (payload.length = len.toNat)
  | .escAny x => decide (x ≠ flagByte ^^^ escMask ∧ x ≠ escByte ^^^ escMask)
  | .lit b => decide (b ≠ escByte)
  | .first c1 => decide (c1 ≠ 0)
  | .last c => decide (c ≠ 0)
  | .middle c0 c1 => decide (c1 ≠ 0 ∧ c0 ≠ 0 ∧ c0 ≠ c1)
  | .nop | .reset | .crc16 _ | .crcGen | .crcChk | .pack | .stuff | .destuff | .unpack => true
  | .frag | .filter | .gate | .reasm | .flag | .escFlag | .escEsc | .single _ => true
  | .delivered | .buffered | .dropAddr | .dropQuarantine | .dropCrc => true
  | .dropOverflow | .malformed => true

end Sys2Proof
end

