-- ==== Sys2Proof/Decode.lean ====
section
/-! DEFINITION. The decoder, total and rejecting by name, and the encoder, both from 30_encoding.md and
spec/opcode_table.json; with the byte-string helpers, the frame classes (rule R78) and the disposition
codes (rule R220) they share with the machine. -/

namespace Sys2Proof

/-- `s[i]`, with 0 beyond the end; every rule that reads a byte has checked the length first. -/
def byteAt (s : Bytes) (i : Nat) : Byte := s.getD i 0

/-- `s[i..j)`, the bytes at indices `i` to `j-1`, empty when `i >= j` (00_scope.md section 5). -/
def slice (s : Bytes) (i j : Nat) : Bytes := (s.drop i).take (j - i)

/-- The class of a pair of control bytes (rule R78). -/
def frameClass (c0 c1 : Byte) : FrameClass :=
  if c1 = 0 then .single
  else if c0 = 0 then .first
  else if c0 = c1 then .last
  else .middle

/-- The 3-bit code of a disposition (rule R220). -/
def Disposition.code : Disposition → BitVec 3
  | .delivered => 0
  | .buffered => 1
  | .dropAddr => 2
  | .dropQuarantine => 3
  | .dropCrc => 4
  | .dropOverflow => 5
  | .malformed => 6

/-- Why a transaction carries no instruction. -/
inductive DecodeError where
  /-- SEND's operand is longer than `PKT_MAX` (rule R191). -/
  | payloadTooLong
  /-- RECV's operand is longer than `RAW_MAX` (rule R195). -/
  | rawTooLong
  /-- A message of fewer than 7 bytes (rule R83, M4). -/
  | messageTooShort
  /-- The `length` byte disagrees with the bytes present (rule R83, M5). -/
  | messageLengthMismatch
  /-- A delimiter position that does not hold `FLAG` (rule R83, M2). -/
  | notDelimiter
  /-- No byte where an encoded body byte should stand. -/
  | bodyEmpty
  /-- `ESC` with no byte after it (rule R83, M3). -/
  | danglingEscape
  /-- Bytes beyond one encoded body byte. -/
  | bodyTrailing
  /-- Disposition code 7, never produced (rule R220). -/
  | dispositionReserved
deriving DecidableEq, Repr

/-- The command code (rule R80); NOP and RESET have no operands to look at. -/
def decodeCmd (code : BitVec 2) (data : Bytes) (dst : Byte) : Except DecodeError Instr :=
  if code = 0 then .ok .nop
  else if code = 1 then
    if data.length ≤ pktMax then .ok (.send data dst) else .error .payloadTooLong
  else if code = 2 then
    if data.length ≤ rawMax then .ok (.recv data) else .error .rawTooLong
  else .ok .reset

/-- An engine operation is its name. -/
def decodeEngine : EngineOp → Instr
  | .crc16 s => .crc16 s
  | .crcGen => .crcGen
  | .crcChk => .crcChk
  | .pack => .pack
  | .stuff => .stuff
  | .destuff => .destuff
  | .unpack => .unpack
  | .frag => .frag
  | .filter => .filter
  | .gate => .gate
  | .reasm => .reasm

/-- The logical message, at the offsets of rule R59; well formed exactly when rule R72 says. -/
def decodeMsg (m : Bytes) : Except DecodeError Instr :=
  if m.length < 7 then .error .messageTooShort
  else if m.length ≠ 7 + (byteAt m 4).toNat then .error .messageLengthMismatch
  else
    let len := (byteAt m 4).toNat
    .ok (.msg (byteAt m 0) (byteAt m 1) (byteAt m 2) (byteAt m 3) (byteAt m 4)
      (slice m 5 (5 + len)) (byteAt m (5 + len)) (byteAt m (6 + len)))

/-- The byte at a delimiter position (rule R73). -/
def decodeDelim (b : Byte) : Except DecodeError Instr :=
  if b = flagByte then .ok .flag else .error .notDelimiter

/-- One encoded body byte (rules R74, R75): ESC takes the byte after it, whatever it is; any other byte,
0x7D included, stands for itself. -/
def decodeBody : Bytes → Except DecodeError Instr
  | [] => .error .bodyEmpty
  | [b] => if b = escByte then .error .danglingEscape else .ok (.lit b)
  | [b, x] =>
    if b ≠ escByte then .error .bodyTrailing
    else if x = flagByte ^^^ escMask then .ok .escFlag
    else if x = escByte ^^^ escMask then .ok .escEsc
    else .ok (.escAny x)
  | _ :: _ :: _ :: _ => .error .bodyTrailing

/-- The control bytes (rule R78). -/
def decodeCtrl (c0 c1 : Byte) : Instr :=
  match frameClass c0 c1 with
  | .single => .single c0
  | .first => .first c1
  | .last => .last c0
  | .middle => .middle c0 c1

/-- The instruction that stands for a disposition. -/
def dispositionInstr : Disposition → Instr
  | .delivered => .delivered
  | .buffered => .buffered
  | .dropAddr => .dropAddr
  | .dropQuarantine => .dropQuarantine
  | .dropCrc => .dropCrc
  | .dropOverflow => .dropOverflow
  | .malformed => .malformed

/-- The disposition code (rule R220). -/
def decodeDisp (code : BitVec 3) : Except DecodeError Instr :=
  if code = 0 then .ok .delivered
  else if code = 1 then .ok .buffered
  else if code = 2 then .ok .dropAddr
  else if code = 3 then .ok .dropQuarantine
  else if code = 4 then .ok .dropCrc
  else if code = 5 then .ok .dropOverflow
  else if code = 6 then .ok .malformed
  else .error .dispositionReserved

/-- The decoder: what instruction a transaction carries. -/
def decode : Transaction → Except DecodeError Instr
  | .cmd code data dst => decodeCmd code data dst
  | .engine op => .ok (decodeEngine op)
  | .msg m => decodeMsg m
  | .delim b => decodeDelim b
  | .body bs => decodeBody bs
  | .ctrl c0 c1 => .ok (decodeCtrl c0 c1)
  | .disp code => decodeDisp code

/-- The encoder: the transaction that carries an instruction. -/
def encode : Instr → Transaction
  | .nop => .cmd 0b00 [] 0
  | .send pkt dst => .cmd 0b01 pkt dst
  | .recv raw => .cmd 0b10 raw 0
  | .reset => .cmd 0b11 [] 0
  | .crc16 s => .engine (.crc16 s)
  | .crcGen => .engine .crcGen
  | .crcChk => .engine .crcChk
  | .pack => .engine .pack
  | .stuff => .engine .stuff
  | .destuff => .engine .destuff
  | .unpack => .engine .unpack
  | .frag => .engine .frag
  | .filter => .engine .filter
  | .gate => .engine .gate
  | .reasm => .engine .reasm
  | .msg c0 c1 src dst len payload ck0 ck1 => .msg ([c0, c1, src, dst, len] ++ payload ++ [ck0, ck1])
  | .flag => .delim 0x7D
  | .escFlag => .body [0x7E, 0x5D]
  | .escEsc => .body [0x7E, 0x5E]
  | .escAny x => .body [0x7E, x]
  | .lit b => .body [b]
  | .single c0 => .ctrl c0 0
  | .first c1 => .ctrl 0 c1
  | .last c => .ctrl c c
  | .middle c0 c1 => .ctrl c0 c1
  | .delivered => .disp 0b000
  | .buffered => .disp 0b001
  | .dropAddr => .disp 0b010
  | .dropQuarantine => .disp 0b011
  | .dropCrc => .disp 0b100
  | .dropOverflow => .disp 0b101
  | .malformed => .disp 0b110

/-- The `n` bytes of a table number, the most significant first: the table writes the byte that travels first
leftmost (rules R70, R73; notes/assumptions/5.md). -/
def tableBytes (n w : Nat) : Bytes :=
  (List.range n).map fun k => BitVec.ofNat 8 (w >>> (8 * (n - 1 - k)))

/-- A row's number as the transaction that carries it. The number alone does not name its format, so the
formats are tried in an order that notes/assumptions/5.md gives; operand strings are empty. -/
def tableTransaction (nbits w : Nat) : Transaction :=
  let n := (nbits + 7) / 8
  if n = 1 then
    if nbits ≠ 3 ∧ w < 4 then .cmd (BitVec.ofNat 2 w) [] 0
    else if w < 8 then .disp (BitVec.ofNat 3 w)
    else if w = 0x7D then .delim 0x7D
    else .body [BitVec.ofNat 8 w]
  else if n = 2 then
    if w >>> 8 = 0x7E then .body (tableBytes 2 w)
    else .ctrl (BitVec.ofNat 8 (w >>> 8)) (BitVec.ofNat 8 w)
  else .msg (tableBytes n w)

/-- The instruction the decoder reads from a table row's number. -/
def decodeTableWord (nbits w : Nat) : Option Instr :=
  match decode (tableTransaction nbits w) with
  | .ok i => some i
  | .error _ => none

end Sys2Proof
end

