-- ==== Sys2Proof/Machine/State.lean ====
section
/-! DEFINITION. The state of one DLL-CORE (10_state.md), its outputs, and the reasons a step stops. -/

namespace Sys2Proof.Machine

/-- The Frame register file (rule R23). `header` and `footer` are hard-wired: `Frame.header` and
`Frame.footer` of Machine/Operands.lean. -/
structure Frame where
  /-- `control[0]`: the frame's index within its packet. -/
  control0 : Byte
  /-- `control[1]`: the index of the packet's last frame. -/
  control1 : Byte
  /-- `addressing[0]`: the source. -/
  addressing0 : Byte
  /-- `addressing[1]`: the destination. -/
  addressing1 : Byte
  /-- `length`, which is also the length register of the `net_packet` buffer (rule R28). -/
  length : Byte
  /-- `net_packet`. -/
  netPacket : Bytes
  /-- `checksum[0]`, the high byte. -/
  checksum0 : Byte
  /-- `checksum[1]`, the low byte. -/
  checksum1 : Byte
deriving DecidableEq, Repr

/-- An output event (rules R34, R35). -/
inductive Event where
  /-- A stuffed frame to PHY. -/
  | tx (bytes : Bytes)
  /-- A packet and its source address to NET. -/
  | deliver (payload : Bytes) (source : Byte)
deriving DecidableEq, Repr

/-- What the status channel shows of the last operation (rule R36). -/
inductive Result where
  /-- Nothing: NOP and RESET return nothing, and so does an engine operation that does not end a RECV. -/
  | nothing
  /-- SEND's `ok`. -/
  | send (ok : Bool)
  /-- RECV's `status` and `disp`. -/
  | recv (status : Bool) (disp : Disposition)
deriving DecidableEq, Repr

/-- The state. `error` and `reasm` are what survives an operation (rule R20); `cfg` is constant (rule R32);
`inbox`, `events` and `result` are the three channels (rules R33 to R36); the rest is transient inside one
operation (rule R23). -/
structure State where
  /-- The configuration record (rule R32). -/
  cfg : Cfg
  /-- The link error flag (rule R21). -/
  error : Bool
  /-- The reassembly buffer; `reasm_len` is its length (rule R22). -/
  reasm : Bytes
  /-- The Frame registers (rule R23). -/
  frame : Frame
  /-- The CRC register (rule R25). -/
  crc : Half
  /-- The result bit of CRC.CHK (rule R106). -/
  crcOk : Bool
  /-- The logical message buffer; `msg_len` is its length (rule R29). -/
  msg : Bytes
  /-- The stuffed frame buffer; `stuffed_len` is its length (rule R29). -/
  stuffed : Bytes
  /-- SEND's payload operand (rule R30). -/
  pkt : Bytes
  /-- SEND's destination operand (rule R33). -/
  dst : Byte
  /-- RECV's raw buffer operand (rule R30). -/
  raw : Bytes
  /-- `num_frames` (rule R150). -/
  numFrames : Nat
  /-- The fragment index `i` of SEND (rule R26). -/
  fragIndex : Nat
  /-- The scan index of STUFF and DESTUFF (rule R26). -/
  scanIndex : Nat
  /-- What is presented to the block and not yet taken, first to be taken first (rules R33, R60). -/
  inbox : List Transaction
  /-- The events emitted so far, in emission order (rule R62). -/
  events : List Event
  /-- The status channel (rule R36). -/
  result : Result
deriving DecidableEq, Repr

/-- Reasons to stop with a fault: none. The block has no trap, abort or exception path (rule R16), and every
error condition of a received frame is a disposition. -/
inductive Fault where
deriving DecidableEq, Repr

/-- Reasons to refuse. All are safe: where the hardware would go on, the model says nothing. -/
inductive Refusal where
  /-- Raised by `exec` for an instruction that has no meaning yet; no arm does. -/
  | notModelled (mnemonic : String)
  /-- Raised by `step` for a transaction that carries no instruction. -/
  | undecodable (why : DecodeError)
  /-- Raised by SEND for a payload longer than `PKT_MAX` (rules R16, R191). -/
  | payloadTooLong
  /-- Raised by RECV for a raw buffer longer than `RAW_MAX` (rule R16). -/
  | rawTooLong
  /-- Raised by MSG for a term whose `length` field is not its payload's length (rule R72): no message. -/
  | lengthFieldMismatch
  /-- Raised by LIT for the byte 0x7E, which is no literal (rule R75). -/
  | literalIsEscape
  /-- Raised by FIRST, LAST and MIDDLE for control bytes of another class (rule R78). -/
  | notOfThisClass
deriving DecidableEq, Repr

/-- How a receive stage leaves the RECV it belongs to: going on, or ended (rule R195). -/
inductive Stage where
  | goesOn (s : State)
  | ended (s : State)
deriving DecidableEq, Repr

/-- The default Frame (rule R24). `control`, `addressing` and `checksum` hold no value until written; the
model's zeros are a DESIGN CHOICE (notes/assumptions/2.md), unsafe for a claim that names them. -/
def Frame.default : Frame :=
  { control0 := 0, control1 := 0, addressing0 := 0, addressing1 := 0, length := 0, netPacket := [],
    checksum0 := 0, checksum1 := 0 }

/-- The state after reset of a DLL-CORE with configuration `cfg` (rules R40, R250, R251). Nothing is
presented, nothing has been emitted. -/
def State.resetWith (cfg : Cfg) : State :=
  { cfg := cfg, error := false, reasm := [], frame := Frame.default, crc := 0, crcOk := false, msg := [],
    stuffed := [], pkt := [], dst := 0, raw := [], numFrames := 0, fragIndex := 0, scanIndex := 0,
    inbox := [], events := [], result := .nothing }

/-- The state after reset, at the default configuration. -/
def State.reset : State := State.resetWith Cfg.default

end Sys2Proof.Machine
end

