-- ==== Sys2Proof/Machine/Operands.lean ====
section
/-! DEFINITION. The values the operations compute on: the Frame's hard-wired registers, the message
layout (rules R59, R70), the escapes (rule R121), the slices of a packet (rules R150 to R152), and the
accessors the host reads (rules R36, R37). -/

namespace Sys2Proof.Machine

/-- `header`: always `FLAG` (rule R23). -/
def Frame.header (_ : Frame) : Byte := flagByte

/-- `footer`: always `FLAG` (rule R23). -/
def Frame.footer (_ : Frame) : Byte := flagByte

/-- The class of the frame in the registers (rule R78). -/
def Frame.frameClass (f : Frame) : FrameClass := Sys2Proof.frameClass f.control0 f.control1

/-- `v[15:8]`. -/
def hiByte (v : Half) : Byte := v.extractLsb' 8 8

/-- `v[7:0]`. -/
def loByte (v : Half) : Byte := v.extractLsb' 0 8

/-- The protected bytes, the input of the CRC (rule R104). -/
def protectedBytes (f : Frame) : Bytes :=
  [f.control0, f.control1, f.addressing0, f.addressing1, f.length] ++ f.netPacket

/-- The logical message of a Frame (rules R70, R120). -/
def packMessage (f : Frame) : Bytes := protectedBytes f ++ [f.checksum0, f.checksum1]

/-- The fields of a logical message into a Frame; none if the message is malformed, M4 or M5
(rule R128). Every register is written, so the Frame before does not matter. -/
def unpackMessage (m : Bytes) : Option Frame :=
  if m.length < 7 then none
  else if m.length ≠ 7 + (byteAt m 4).toNat then none
  else
    let len := (byteAt m 4).toNat
    some
      { control0 := byteAt m 0
        control1 := byteAt m 1
        addressing0 := byteAt m 2
        addressing1 := byteAt m 3
        length := byteAt m 4
        netPacket := slice m 5 (5 + len)
        checksum0 := byteAt m (5 + len)
        checksum1 := byteAt m (6 + len) }

/-- The escape of one byte (rule R121). -/
def escape (b : Byte) : Bytes :=
  if b = flagByte ∨ b = escByte then [escByte, b ^^^ escMask] else [b]

/-- The byte an escape pair stands for, whatever its second byte (rule R75). -/
def unescape (x : Byte) : Byte := x ^^^ escMask

/-- STUFF as a function on byte strings (rule R122). -/
def stuffBytes (m : Bytes) : Bytes := [flagByte] ++ m.flatMap escape ++ [flagByte]

/-- DESTUFF's scan of the body; none when it meets a dangling escape (rules R125, R126). -/
def destuffBody : Bytes → Option Bytes
  | [] => some []
  | [b] => if b = escByte then none else some [b]
  | b :: x :: rest =>
    if b = escByte then (destuffBody rest).map (unescape x :: ·)
    else (destuffBody (x :: rest)).map (b :: ·)

/-- The body of a raw buffer, `f[1..len(f)-1)` (rule R125). -/
def bodyOf (f : Bytes) : Bytes := slice f 1 (f.length - 1)

/-- The delimiter check (rule R131): cases M1 and M2 of rule R83. -/
def delimited (f : Bytes) : Bool :=
  decide (2 ≤ f.length ∧ byteAt f 0 = flagByte ∧ byteAt f (f.length - 1) = flagByte)

/-- `num_frames` (rule R150): `max(1, ceil(L / C))`. -/
def frameCount (L C : Nat) : Nat := max 1 ((L + C - 1) / C)

/-- The payload slice of frame `i` of `n` (rule R151). -/
def fragPayload (C : Nat) (pkt : Bytes) (n i : Nat) : Bytes :=
  if i < n - 1 then slice pkt (i * C) (i * C + C) else slice pkt ((n - 1) * C) pkt.length

/-- The `length` register of frame `i` of `n` (rule R151). -/
def fragLength (C L n i : Nat) : Byte :=
  BitVec.ofNat 8 (if i < n - 1 then C else L - (n - 1) * C)

/-- Frame `i` of `n`: a default Frame (rule R24) with the fields of rules R151 and R152. `checksum` keeps
what it had, for CRC.GEN to write. -/
def fragFrame (cfg : Cfg) (pkt : Bytes) (dst : Byte) (n i : Nat) (f : Frame) : Frame :=
  { control0 := BitVec.ofNat 8 i
    control1 := BitVec.ofNat 8 (n - 1)
    addressing0 := cfg.localAddr
    addressing1 := dst
    length := fragLength cfg.capacity pkt.length n i
    netPacket := fragPayload cfg.capacity pkt n i
    checksum0 := f.checksum0
    checksum1 := f.checksum1 }

/-- What a fragment is appended to: nothing for `control[0] = 0`, else the buffer (rules R171, R172). -/
def reasmBase (s : State) : Bytes := if s.frame.control0 = 0 then [] else s.reasm

/-- The reassembly buffer with the frame's payload (rules R171, R172). -/
def reasmAppended (s : State) : Bytes := reasmBase s ++ s.frame.netPacket

/-- The `status` bit of a disposition: 0 for MALFORMED only (rules R196, R220). -/
def statusOf (d : Disposition) : Bool := decide (d ≠ .malformed)

/-- RECV's result as the 4-bit word `(disp[2:0], status)` (rule R81). -/
def Result.recvWord : Result → Option (BitVec 4)
  | .recv status d => some (d.code ++ BitVec.ofBool status)
  | .nothing | .send _ => none

/-- The accessor `error_q` (rule R37). -/
def State.errorQ (s : State) : BitVec 1 := BitVec.ofBool s.error

/-- The accessor `reasm_len_q` (rule R37). -/
def State.reasmLenQ (s : State) : Byte := BitVec.ofNat 8 s.reasm.length

end Sys2Proof.Machine
end

