-- ==== Sys2Proof/Machine/Flags.lean ====
section
/-! DEFINITION. The conditions the receive stages test and what they make of the link error flag (rules R154,
R160 to R164, R176). -/

namespace Sys2Proof.Machine

/-- The address filter accepts the frame (rule R154). -/
def accepts (cfg : Cfg) (f : Frame) : Bool :=
  decide (f.addressing1 = cfg.localAddr ∨ f.addressing1 = broadcast)

/-- The gate holds the frame back (rule R162). -/
def gated (error : Bool) (f : Frame) : Bool := error && decide (f.control1 ≠ 0)

/-- `error` after a quarantined frame: cleared by a LAST fragment (rule R163). -/
def errorAfterQuarantine (error : Bool) (f : Frame) : Bool :=
  if f.frameClass = .last then false else error

/-- `error` after a CRC failure (rule R161). -/
def errorAfterCrc : Bool := true

/-- The overflow test, before `reasm` is written (rule R176). -/
def overflows (s : State) : Bool :=
  decide ((reasmBase s).length + s.frame.length.toNat > s.cfg.reasmMax)

/-- `error` after an overflow: set unless the frame is LAST (rules R176, R220). -/
def errorAfterOverflow (error : Bool) (f : Frame) : Bool :=
  if f.frameClass = .last then error else true

end Sys2Proof.Machine
end

