-- ==== Sys2Proof/Machine/Ops.lean ====
section
/-! DEFINITION. The named operations on the state: emitting an event, loading operands, releasing buffers, and
ending a RECV with a disposition, the block's analogue of taking an exception (rules R220, R227). There is no
return from a drop: it is not a control transfer (rule R227). -/

namespace Sys2Proof.Machine

/-- `emit` (00_scope.md section 5). -/
def emit (e : Event) (s : State) : State := { s with events := s.events ++ [e] }

/-- SEND's operands into their registers (rule R33). -/
def loadSend (pkt : Bytes) (dst : Byte) (s : State) : State := { s with pkt := pkt, dst := dst }

/-- RECV's operand into its register (rule R33). -/
def loadRecv (raw : Bytes) (s : State) : State := { s with raw := raw }

/-- The control registers. -/
def setControl (c0 c1 : Byte) (s : State) : State :=
  { s with frame := { s.frame with control0 := c0, control1 := c1 } }

/-- The release at the end of one frame: `net_packet`, `msg`, `stuffed` at length 0 (rules R65, R190). -/
def releaseFrame (s : State) : State :=
  { s with
    frame := { s.frame with length := 0, netPacket := [] }
    msg := []
    stuffed := [] }

/-- The release at the end of an operation: the frame's buffers, and the operands and loop indices, which do
not outlive it (rules R26, R30, R65). -/
def release (s : State) : State :=
  { releaseFrame s with pkt := [], raw := [], numFrames := 0, fragIndex := 0, scanIndex := 0 }

/-- An operation that returns nothing. -/
def returnsNothing (s : State) : State := { s with result := .nothing }

/-- RECV's return with a disposition: `status` and `disp` on the status channel, buffers released
(rule R195). -/
def endRecv (d : Disposition) (s : State) : State :=
  release { s with result := .recv (statusOf d) d }

/-- Ending a RECV with a disposition: the state writes and the event that rule R220 lists for it, on the frame
in the registers, and no others. DELIVERED hands over the source of the frame in hand (rule R177). -/
def dispose (d : Disposition) (s : State) : State :=
  match d with
  | .delivered =>
    if s.frame.frameClass = .single then
      endRecv d (emit (.deliver s.frame.netPacket s.frame.addressing0) s)
    else
      endRecv d (emit (.deliver (reasmAppended s) s.frame.addressing0) { s with reasm := [] })
  | .buffered => endRecv d { s with reasm := reasmAppended s }
  | .dropAddr => endRecv d s
  | .dropQuarantine => endRecv d { s with error := errorAfterQuarantine s.error s.frame }
  | .dropCrc => endRecv d { s with error := errorAfterCrc }
  | .dropOverflow =>
    endRecv d { s with reasm := [], error := errorAfterOverflow s.error s.frame }
  | .malformed => endRecv d s

/-- Ending a RECV with a disposition that puts the frame's payload behind `reasm`: the new length is tested
first (rule R176). -/
def disposeTested (d : Disposition) (s : State) : State :=
  if overflows s then dispose .dropOverflow s else dispose d s

/-- The next receive stage, unless the RECV has ended. -/
def Stage.bind (a : Stage) (next : State → Stage) : Stage :=
  match a with
  | .goesOn s => next s
  | .ended s => .ended s

/-- The state a stage leaves when it is the last one to run. A stage that goes on has returned nothing. -/
def Stage.finish : Stage → State
  | .goesOn s => returnsNothing s
  | .ended s => s

end Sys2Proof.Machine
end

