-- ==== Sys2Proof/Machine/Crc.lean ====
section
/-! DEFINITION. The CRC engine: CRC16, CRC.GEN, CRC.CHK (40_crc.md). -/

namespace Sys2Proof.Machine

/-- One bit step: the top bit is tested before the shift (rule R100). -/
def crcBit (poly crc : Half) : Half :=
  if crc.msb then (crc <<< 1) ^^^ poly else crc <<< 1

/-- One byte: it enters bits 15:8, then eight bit steps (rules R53, R100). -/
def crcByte (poly crc : Half) (b : Byte) : Half :=
  Nat.repeat (crcBit poly) 8 (crc ^^^ (b ++ (0 : Byte)))

/-- CRC16 (rule R100): bytes in order, from 0x0000. -/
def crc16 (poly : Half) (s : Bytes) : Half := s.foldl (crcByte poly) 0

/-- A CRC computation leaves its result in the CRC register (rule R25). -/
def computeCrc (bs : Bytes) (s : State) : State := { s with crc := crc16 s.cfg.poly bs }

/-- CRC.GEN: the CRC of the protected bytes into `checksum`, high byte first (rules R52, R105). -/
def crcGenOp (s : State) : State :=
  let t := computeCrc (protectedBytes s.frame) s
  { t with frame := { t.frame with checksum0 := hiByte t.crc, checksum1 := loByte t.crc } }

/-- CRC.CHK: the CRC of the protected bytes against `checksum`, byte for byte (rule R106). -/
def crcChkOp (s : State) : State :=
  let t := computeCrc (protectedBytes s.frame) s
  { t with
    crcOk := decide (hiByte t.crc = t.frame.checksum0) && decide (loByte t.crc = t.frame.checksum1) }

/-- Stage 4 of RECV (rules R161, R195). -/
def crcStage (s : State) : Stage :=
  if (crcChkOp s).crcOk then .goesOn (crcChkOp s) else .ended (dispose .dropCrc (crcChkOp s))

/-- CRC16 (rule R100). -/
def execCrc16 (bs : Bytes) (s : State) : Host.Outcome State Fault Refusal :=
  .next (returnsNothing (computeCrc bs s))

/-- CRC.GEN (rule R105). -/
def execCrcGen (s : State) : Host.Outcome State Fault Refusal := .next (returnsNothing (crcGenOp s))

/-- CRC.CHK (rule R106): it writes its result bit and ends nothing. -/
def execCrcChk (s : State) : Host.Outcome State Fault Refusal := .next (returnsNothing (crcChkOp s))

end Sys2Proof.Machine
end

