-- ==== Sys2Proof/Machine/Fragmentation.lean ====
section
/-! DEFINITION. FRAG, FILTER, GATE, REASM and the four frame classes (42_fragmentation.md). -/

namespace Sys2Proof.Machine

/-- FRAG: `num_frames`, and the frame that the fragment index selects (rules R150 to R152). -/
def fragOp (s : State) : State :=
  let n := frameCount s.pkt.length s.cfg.capacity
  { s with numFrames := n, frame := fragFrame s.cfg s.pkt s.dst n s.fragIndex s.frame }

/-- FILTER: stage 2 of RECV (rule R154). -/
def filterStage (s : State) : Stage :=
  if accepts s.cfg s.frame then .goesOn s else .ended (dispose .dropAddr s)

/-- GATE: stage 3 of RECV (rules R162, R163). -/
def gateStage (s : State) : Stage :=
  if gated s.error s.frame then .ended (dispose .dropQuarantine s) else .goesOn s

/-- REASM: stage 5 of RECV, on a frame that passed every check (rules R170 to R176). -/
def reasmOp (s : State) : State :=
  match s.frame.frameClass with
  | .single => dispose .delivered s
  | .first => disposeTested .buffered s
  | .middle => disposeTested .buffered s
  | .last => disposeTested .delivered s

/-- FRAG (rules R150 to R152). -/
def execFrag (s : State) : Host.Outcome State Fault Refusal := .next (returnsNothing (fragOp s))

/-- FILTER (rule R154). -/
def execFilter (s : State) : Host.Outcome State Fault Refusal := .next (filterStage s).finish

/-- GATE (rule R162). -/
def execGate (s : State) : Host.Outcome State Fault Refusal := .next (gateStage s).finish

/-- REASM (rules R170 to R176). -/
def execReasm (s : State) : Host.Outcome State Fault Refusal := .next (reasmOp s)

/-- SINGLE: REASM of the frame in hand, with these control bytes (rule R170). -/
def execSingle (c0 : Byte) (s : State) : Host.Outcome State Fault Refusal :=
  .next (reasmOp (setControl c0 0 s))

/-- FIRST: REASM of the frame in hand, with these control bytes (rules R171, R176). -/
def execFirst (c1 : Byte) (s : State) : Host.Outcome State Fault Refusal :=
  if frameClass 0 c1 = .first then .next (reasmOp (setControl 0 c1 s)) else .refused .notOfThisClass

/-- LAST: REASM of the frame in hand, with these control bytes (rules R172, R173, R176). -/
def execLast (c : Byte) (s : State) : Host.Outcome State Fault Refusal :=
  if frameClass c c = .last then .next (reasmOp (setControl c c s)) else .refused .notOfThisClass

/-- MIDDLE: REASM of the frame in hand, with these control bytes (rules R172, R176). -/
def execMiddle (c0 c1 : Byte) (s : State) : Host.Outcome State Fault Refusal :=
  if frameClass c0 c1 = .middle then .next (reasmOp (setControl c0 c1 s))
  else .refused .notOfThisClass

end Sys2Proof.Machine
end

