-- ==== Sys2Proof/Machine/Stuffing.lean ====
section
/-! DEFINITION. PACK, STUFF, DESTUFF, UNPACK (41_stuffing.md), the logical message and the encoded body
bytes (30_encoding.md). -/

namespace Sys2Proof.Machine

/-- PACK (rule R120). -/
def packOp (s : State) : State := { s with msg := packMessage s.frame }

/-- STUFF (rule R122); its scan has passed every message byte. -/
def stuffOp (s : State) : State := { s with stuffed := stuffBytes s.msg, scanIndex := s.msg.length }

/-- The destuffed message into its buffer; the scan has passed the whole body (rule R125). -/
def takeMessage (m : Bytes) (s : State) : State :=
  { s with msg := m, scanIndex := (bodyOf s.raw).length }

/-- The fields of a message into the Frame registers (rule R128). -/
def takeFrame (f : Frame) (s : State) : State := { s with frame := f }

/-- DESTUFF, with the delimiter check before it: stage 1 of RECV, cases M1 to M3 (rules R125, R126,
R131). -/
def destuffStage (s : State) : Stage :=
  if delimited s.raw then
    match destuffBody (bodyOf s.raw) with
    | some m => .goesOn (takeMessage m s)
    | none => .ended (dispose .malformed s)
  else .ended (dispose .malformed s)

/-- UNPACK: stage 1 of RECV, cases M4 and M5 (rule R128). -/
def unpackStage (s : State) : Stage :=
  match unpackMessage s.msg with
  | some f => .goesOn (takeFrame f s)
  | none => .ended (dispose .malformed s)

/-- One encoded body byte in DESTUFF's scan: `out <- out ++ [b]; j <- j + k` (rule R125). -/
def yieldByte (b : Byte) (k : Nat) (s : State) : State :=
  { s with msg := s.msg ++ [b], scanIndex := s.scanIndex + k }

/-- PACK (rule R120). -/
def execPack (s : State) : Host.Outcome State Fault Refusal := .next (returnsNothing (packOp s))

/-- STUFF (rule R122). -/
def execStuff (s : State) : Host.Outcome State Fault Refusal := .next (returnsNothing (stuffOp s))

/-- DESTUFF (rule R125). -/
def execDestuff (s : State) : Host.Outcome State Fault Refusal := .next (destuffStage s).finish

/-- UNPACK (rule R128). -/
def execUnpack (s : State) : Host.Outcome State Fault Refusal := .next (unpackStage s).finish

/-- MSG: the fields as the logical message, in the message buffer, at the offsets of rules R59 and R70. -/
def execMsg (c0 c1 src dst len : Byte) (payload : Bytes) (ck0 ck1 : Byte) (s : State) :
    Host.Outcome State Fault Refusal :=
  if payload.length = len.toNat then
    .next (returnsNothing { s with msg := [c0, c1, src, dst, len] ++ payload ++ [ck0, ck1] })
  else .refused .lengthFieldMismatch

/-- FLAG: a delimiter, stripped; it yields nothing and the body's scan does not count it (rules R73,
R125). -/
def execFlag (s : State) : Host.Outcome State Fault Refusal := .next (returnsNothing s)

/-- ESC.FLAG: yields 0x7D (rule R74). -/
def execEscFlag (s : State) : Host.Outcome State Fault Refusal :=
  .next (returnsNothing (yieldByte (unescape 0x5D) 2 s))

/-- ESC.ESC: yields 0x7E (rule R74). -/
def execEscEsc (s : State) : Host.Outcome State Fault Refusal :=
  .next (returnsNothing (yieldByte (unescape 0x5E) 2 s))

/-- ESC.ANY: yields `x XOR 0x20` whatever `x` is (rules R75, R84). -/
def execEscAny (x : Byte) (s : State) : Host.Outcome State Fault Refusal :=
  .next (returnsNothing (yieldByte (unescape x) 2 s))

/-- LIT: yields itself, an unescaped 0x7D included (rules R75, R84). -/
def execLit (b : Byte) (s : State) : Host.Outcome State Fault Refusal :=
  if b = escByte then .refused .literalIsEscape else .next (returnsNothing (yieldByte b 1 s))

end Sys2Proof.Machine
end

