-- ==== Sys2Proof/Machine/Command.lean ====
section
/-! DEFINITION. The host's four operations: NOP, SEND, RECV, RESET (43_dispatch.md). Each is one atomic
transition (rule R57). -/

namespace Sys2Proof.Machine

/-- One turn of SEND's loop: frame `i` is filled, checksummed, packed, stuffed, emitted and released
(rule R190). -/
def sendFrame (s : State) (i : Nat) : State :=
  let t := stuffOp (packOp (crcGenOp (fragOp { s with fragIndex := i })))
  releaseFrame (emit (.tx t.stuffed) t)

/-- SEND's loop, ascending (rules R190, R193). -/
def sendFrames (s : State) : State :=
  (List.range (frameCount s.pkt.length s.cfg.capacity)).foldl sendFrame s

/-- The stages of RECV in their normative order (rules R195, R197). -/
def recvStages (s : State) : State :=
  ((((destuffStage s).bind unpackStage).bind filterStage).bind gateStage).bind crcStage |>.bind
    (fun t => .ended (reasmOp t)) |>.finish

/-- NOP (rule R201). -/
def execNop (s : State) : Host.Outcome State Fault Refusal := .next (returnsNothing s)

/-- SEND (rules R190, R191): it returns `ok = 1`. -/
def execSend (pkt : Bytes) (dst : Byte) (s : State) : Host.Outcome State Fault Refusal :=
  if pkt.length ≤ pktMax then
    .next { release (sendFrames (loadSend pkt dst s)) with result := .send true }
  else .refused .payloadTooLong

/-- RECV (rule R195). -/
def execRecv (raw : Bytes) (s : State) : Host.Outcome State Fault Refusal :=
  if raw.length ≤ rawMax then .next (recvStages (loadRecv raw s)) else .refused .rawTooLong

/-- RESET (rule R200): `error` and `reasm`, and the empty buffers of rule R40; `cfg` is kept. -/
def execReset (s : State) : Host.Outcome State Fault Refusal :=
  .next (returnsNothing (release { s with error := false, reasm := [] }))

end Sys2Proof.Machine
end

