-- ==== Sys2Proof/Machine/Dispositions.lean ====
section
/-! DEFINITION. The dispositions as operations: the RECV of the frame in the registers ends here (rules R220 to
R225; notes/assumptions/7.md). -/

namespace Sys2Proof.Machine

/-- DELIVERED (rule R220): a SINGLE frame's payload, or the whole buffer; the second is written first, so it
is tested first (rules R172, R176). -/
def execDelivered (s : State) : Host.Outcome State Fault Refusal :=
  if s.frame.frameClass = .single then .next (dispose .delivered s)
  else .next (disposeTested .delivered s)

/-- BUFFERED (rule R220): the fragment is stored; the new length is tested first (rule R176). -/
def execBuffered (s : State) : Host.Outcome State Fault Refusal := .next (disposeTested .buffered s)

/-- DROP_ADDR (rule R221). -/
def execDropAddr (s : State) : Host.Outcome State Fault Refusal := .next (dispose .dropAddr s)

/-- DROP_QUARANTINE (rule R223). -/
def execDropQuarantine (s : State) : Host.Outcome State Fault Refusal :=
  .next (dispose .dropQuarantine s)

/-- DROP_CRC (rule R222). -/
def execDropCrc (s : State) : Host.Outcome State Fault Refusal := .next (dispose .dropCrc s)

/-- DROP_OVERFLOW (rule R225). -/
def execDropOverflow (s : State) : Host.Outcome State Fault Refusal := .next (dispose .dropOverflow s)

/-- MALFORMED (rule R224). -/
def execMalformed (s : State) : Host.Outcome State Fault Refusal := .next (dispose .malformed s)

end Sys2Proof.Machine
end

