-- ==== Sys2Proof/Machine/Dispatch.lean ====
section
/-! DEFINITION. One arm per row of spec/opcode_table.json. -/

namespace Sys2Proof.Machine

def exec (i : Instr) (s : State) : Host.Outcome State Fault Refusal :=
  match i with
  | .nop => Sys2Proof.Machine.execNop s
  | .send pkt dst => Sys2Proof.Machine.execSend pkt dst s
  | .recv raw => Sys2Proof.Machine.execRecv raw s
  | .reset => Sys2Proof.Machine.execReset s
  | .crc16 bs => Sys2Proof.Machine.execCrc16 bs s
  | .crcGen => Sys2Proof.Machine.execCrcGen s
  | .crcChk => Sys2Proof.Machine.execCrcChk s
  | .pack => Sys2Proof.Machine.execPack s
  | .stuff => Sys2Proof.Machine.execStuff s
  | .destuff => Sys2Proof.Machine.execDestuff s
  | .unpack => Sys2Proof.Machine.execUnpack s
  | .frag => Sys2Proof.Machine.execFrag s
  | .filter => Sys2Proof.Machine.execFilter s
  | .gate => Sys2Proof.Machine.execGate s
  | .reasm => Sys2Proof.Machine.execReasm s
  | .msg c0 c1 src dst len payload ck0 ck1 => Sys2Proof.Machine.execMsg c0 c1 src dst len payload ck0 ck1 s
  | .flag => Sys2Proof.Machine.execFlag s
  | .escFlag => Sys2Proof.Machine.execEscFlag s
  | .escEsc => Sys2Proof.Machine.execEscEsc s
  | .escAny x => Sys2Proof.Machine.execEscAny x s
  | .lit b => Sys2Proof.Machine.execLit b s
  | .single c0 => Sys2Proof.Machine.execSingle c0 s
  | .first c1 => Sys2Proof.Machine.execFirst c1 s
  | .last c => Sys2Proof.Machine.execLast c s
  | .middle c0 c1 => Sys2Proof.Machine.execMiddle c0 c1 s
  | .delivered => Sys2Proof.Machine.execDelivered s
  | .buffered => Sys2Proof.Machine.execBuffered s
  | .dropAddr => Sys2Proof.Machine.execDropAddr s
  | .dropQuarantine => Sys2Proof.Machine.execDropQuarantine s
  | .dropCrc => Sys2Proof.Machine.execDropCrc s
  | .dropOverflow => Sys2Proof.Machine.execDropOverflow s
  | .malformed => Sys2Proof.Machine.execMalformed s

end Sys2Proof.Machine
end

