-- ==== Sys2Proof/Machine/Step.lean ====
section
/-! DEFINITION. One step: the block takes the next transaction presented to it and runs it to completion; with
none presented it does nothing (rules R26, R57, R60). -/

namespace Sys2Proof.Machine

/-- One step. -/
def step (s : State) : Host.Outcome State Fault Refusal :=
  match s.inbox with
  | [] => .next s
  | t :: rest =>
    match decode t with
    | .ok i => exec i { s with inbox := rest }
    | .error why => .refused (.undecodable why)

/-- `s` with the transaction of a table row's number presented first. There is no program and no program
counter (rule R26): the inbox is where `step` takes its next instruction (notes/assumptions/5.md). -/
def State.withFetchWord (s : State) (nbits w : Nat) : State :=
  { s with inbox := tableTransaction nbits w :: s.inbox }

end Sys2Proof.Machine
end

