-- ==== Sys2Proof/Safety.lean ====
section
/-! DEFINITION. What a run of the block keeps, in the terms the statements use. -/

namespace Sys2Proof.Machine

/-- What every step keeps: `reasm` fits its buffer (rule R22) and `length` is the length of `net_packet`
(rule R39). The legality of `cfg` is in its type (rule R9). -/
abbrev State.Inv (s : State) : Prop :=
  s.reasm.length ≤ s.cfg.reasmMax ∧ s.frame.length.toNat = s.frame.netPacket.length

/-- A transaction a host can present: a command, its byte string within 255 bytes (rules R33, R81). -/
def presentable (t : Transaction) : Bool :=
  match t with
  | .cmd _ data _ => decide (data.length ≤ pktMax)
  | .engine _ | .msg _ | .delim _ | .body _ | .ctrl _ _ | .disp _ => false

/-- Only the host presents anything. -/
abbrev State.HostOnly (s : State) : Prop := ∀ t ∈ s.inbox, presentable t = true

/-- The buffers are released (rules R29, R65), and the operands `pkt` and `raw`, `num_frames` and the loop indices are
gone (rules R26, R30; notes/assumptions/6.md). The other transient registers keep their last values. -/
abbrev State.Released (s : State) : Prop :=
  s.frame.length = 0 ∧ s.frame.netPacket = [] ∧ s.msg = [] ∧ s.stuffed = [] ∧ s.pkt = [] ∧ s.raw = [] ∧
    s.numFrames = 0 ∧ s.fragIndex = 0 ∧ s.scanIndex = 0

/-- An outcome that goes on. -/
def GoesOn (o : Host.Outcome State Fault Refusal) : Prop := ∃ s, o = .next s

end Sys2Proof.Machine
end

