-- ==== Sys2Proof/Certificates/Slice0/Obligations.lean ====
section
/-! DEFINITION. The statements about DLL-CORE, and under `Sys2Proof.Claims` the spec's own pseudocode and
tables that they hold the machine against. -/

namespace Sys2Proof.Claims

open Sys2Proof.Machine

/-! ## The spec's functions, written apart from the machine -/

/-- The bits of a byte string, first byte and most significant bit first (rule R102). -/
def bits (s : Bytes) : List Bool := s.flatMap fun b => (List.range 8).map fun k => b.getLsbD (7 - k)

/-- The bits of a 16-bit value, bit 15 first. -/
def halfBits (v : Half) : List Bool := (List.range 16).map fun k => v.getLsbD (15 - k)

/-- A string of bits as a polynomial over GF(2), the first bit its highest coefficient (00_scope.md
section 5). -/
noncomputable def polyOf (bs : List Bool) : Polynomial (ZMod 2) :=
  bs.foldl (fun p b => p * Polynomial.X + (if b then 1 else 0)) 0

/-- Bit-by-bit long division in a 16-bit register that starts at zero (rule R102, second sentence). -/
def longDivision (poly : Half) (bs : List Bool) : Half :=
  bs.foldl (fun r b =>
    let shifted := (r <<< 1) ||| (if b then 1 else 0)
    if r.getLsbD 15 then shifted ^^^ poly else shifted) 0

/-- The loop of DESTUFF from index `j` (rule R125), with fuel. -/
def destuffLoop (body : Bytes) : Nat → Nat → Bytes → Option Bytes
  | 0, _, out => some out
  | fuel + 1, j, out =>
    if j < body.length then
      if body.getD j 0 = 0x7E then
        if j + 1 ≥ body.length then none
        else destuffLoop body fuel (j + 2) (out ++ [body.getD (j + 1) 0 ^^^ 0x20])
      else destuffLoop body fuel (j + 1) (out ++ [body.getD j 0])
    else some out

/-- `DESTUFF(f)` (rule R125); none is the verdict `dangling`. -/
def destuff (f : Bytes) : Option Bytes :=
  let body := (f.drop 1).take (f.length - 2)
  destuffLoop body (body.length + 1) 0 []

/-- M1 or M2 of rule R83. -/
abbrev BadDelimiters (raw : Bytes) : Prop :=
  raw.length < 2 ∨ raw.getD 0 0 ≠ 0x7D ∨ raw.getD (raw.length - 1) 0 ≠ 0x7D

/-- M4 or M5 of rule R83. -/
abbrev BadMessage (m : Bytes) : Prop := m.length < 7 ∨ m.length ≠ 7 + (m.getD 4 0).toNat

/-- `UNPACK(m)`'s assignments (rule R128). -/
def unpackFields (m : Bytes) : Frame :=
  { control0 := m.getD 0 0
    control1 := m.getD 1 0
    addressing0 := m.getD 2 0
    addressing1 := m.getD 3 0
    length := m.getD 4 0
    netPacket := (m.drop 5).take (m.getD 4 0).toNat
    checksum0 := m.getD (5 + (m.getD 4 0).toNat) 0
    checksum1 := m.getD (6 + (m.getD 4 0).toNat) 0 }

/-- Stage 1 of RECV (rule R195): the frame, or none for MALFORMED. -/
def parse (raw : Bytes) : Option Frame :=
  if BadDelimiters raw then none
  else
    match destuff raw with
    | none => none
    | some m => if BadMessage m then none else some (unpackFields m)

/-- The filter of rule R154 lets the frame pass. -/
abbrev Passes (cfg : Cfg) (f : Frame) : Prop := f.addressing1 = cfg.localAddr ∨ f.addressing1 = 0xFF

/-- A fragment that is not the last of its packet (rule R78: FIRST or MIDDLE). -/
abbrev NotLast (f : Frame) : Prop := f.control1 ≠ 0 ∧ f.control0 ≠ f.control1

/-- A LAST fragment (rule R78). -/
abbrev IsLast (f : Frame) : Prop := f.control1 ≠ 0 ∧ f.control0 = f.control1

/-- `CRC16` of the protected bytes in the order of rule R104. -/
def crcOf (poly : Half) (f : Frame) : Half :=
  crc16 poly ([f.control0, f.control1, f.addressing0, f.addressing1, f.length] ++ f.netPacket)

/-- `crc_ok` (rule R106). -/
abbrev CrcGood (poly : Half) (f : Frame) : Prop :=
  (crcOf poly f).extractLsb' 8 8 = f.checksum0 ∧ (crcOf poly f).extractLsb' 0 8 = f.checksum1

/-- The column "code" of the table of rule R220. -/
def dispCode : Disposition → Nat
  | .delivered => 0
  | .buffered => 1
  | .dropAddr => 2
  | .dropQuarantine => 3
  | .dropCrc => 4
  | .dropOverflow => 5
  | .malformed => 6

/-- The column "status" of the table of rule R220. -/
def dispStatus : Disposition → Nat
  | .delivered | .buffered | .dropAddr | .dropQuarantine | .dropCrc | .dropOverflow => 1
  | .malformed => 0

/-- What a RECV makes of the persistent state, and what it puts out. -/
structure RecvOut where
  error : Bool
  reasm : Bytes
  events : List Event
  status : Bool
  disp : Disposition
deriving DecidableEq, Repr

/-- The pseudocode of rule R195, line by line, as a function of `cfg`, the persistent state and `raw`. -/
def recv (cfg : Cfg) (error : Bool) (reasm raw : Bytes) : RecvOut :=
  match parse raw with
  | none => ⟨error, reasm, [], false, .malformed⟩
  | some f =>
    if f.addressing1 ≠ cfg.localAddr ∧ f.addressing1 ≠ 0xFF then ⟨error, reasm, [], true, .dropAddr⟩
    else if error = true ∧ f.control1 ≠ 0 then
      ⟨if f.control0 = f.control1 then false else error, reasm, [], true, .dropQuarantine⟩
    else if ¬ CrcGood cfg.poly f then ⟨true, reasm, [], true, .dropCrc⟩
    else if f.control1 = 0 then
      ⟨error, reasm, [.deliver f.netPacket f.addressing0], true, .delivered⟩
    else
      let base := if f.control0 = 0 then [] else reasm
      if base.length + f.length.toNat > cfg.reasmMax then
        ⟨if f.control0 ≠ f.control1 then true else error, [], [], true, .dropOverflow⟩
      else if f.control0 = f.control1 then
        ⟨error, [], [.deliver (base ++ f.netPacket) f.addressing0], true, .delivered⟩
      else ⟨error, base ++ f.netPacket, [], true, .buffered⟩

/-- The table of rule R166: `error`, class, CRC, overflow to `error` after, disposition, `reasm` after and
event. -/
def errorTable (error : Bool) (cls : FrameClass) (ok ovf : Bool) (reasm payload : Bytes) (src : Byte) :
    Bool × Disposition × Bytes × List Event :=
  match error, cls, ok, ovf with
  | false, .single, true, _ => (false, .delivered, reasm, [.deliver payload src])
  | false, .single, false, _ => (true, .dropCrc, reasm, [])
  | false, .first, true, false => (false, .buffered, payload, [])
  | false, .middle, true, false => (false, .buffered, reasm ++ payload, [])
  | false, .last, true, false => (false, .delivered, [], [.deliver (reasm ++ payload) src])
  | false, .first, true, true => (true, .dropOverflow, [], [])
  | false, .middle, true, true => (true, .dropOverflow, [], [])
  | false, .last, true, true => (false, .dropOverflow, [], [])
  | false, .first, false, _ => (true, .dropCrc, reasm, [])
  | false, .middle, false, _ => (true, .dropCrc, reasm, [])
  | false, .last, false, _ => (true, .dropCrc, reasm, [])
  | true, .single, true, _ => (true, .delivered, reasm, [.deliver payload src])
  | true, .single, false, _ => (true, .dropCrc, reasm, [])
  | true, .first, _, _ => (true, .dropQuarantine, reasm, [])
  | true, .middle, _, _ => (true, .dropQuarantine, reasm, [])
  | true, .last, _, _ => (false, .dropQuarantine, reasm, [])

/-- `ceil(L/C)`, at least 1 (rule R150). -/
def numFrames (L C : Nat) : Nat := max 1 (L / C + if L % C = 0 then 0 else 1)

/-- The payload of frame `i` of `n` (rule R151). -/
def packetSlice (C : Nat) (pkt : Bytes) (n i : Nat) : Bytes :=
  if i + 1 < n then (pkt.drop (i * C)).take C else pkt.drop ((n - 1) * C)

/-- The escaped form of a byte string (rule R121). -/
def escaped (m : Bytes) : Bytes :=
  m.flatMap fun b => if b = 0x7D ∨ b = 0x7E then [0x7E, b ^^^ 0x20] else [b]

/-- The stuffed frame SEND emits for frame `i` of `n` (rules R105, R120, R122, R151, R152). -/
def wireFrame (cfg : Cfg) (pkt : Bytes) (dst : Byte) (n i : Nat) : Bytes :=
  let payload := packetSlice cfg.capacity pkt n i
  let guarded := [BitVec.ofNat 8 i, BitVec.ofNat 8 (n - 1), cfg.localAddr, dst,
    BitVec.ofNat 8 payload.length] ++ payload
  let r := crc16 cfg.poly guarded
  [0x7D] ++ escaped (guarded ++ [r.extractLsb' 8 8, r.extractLsb' 0 8]) ++ [0x7D]

/-- The stuffed frames of one SEND, in order (rules R190, R193). -/
def wireFrames (cfg : Cfg) (pkt : Bytes) (dst : Byte) : List Bytes :=
  let n := numFrames pkt.length cfg.capacity
  (List.range n).map (wireFrame cfg pkt dst n)

/-- The state when an operation that ends a RECV has returned: `net_packet`, `msg` and `stuffed` released (rule
R65), the disposition on the status channel (rule R36), everything else as it was. That the operands and loop indices are
emptied and the other registers keep their values is the model's (notes/assumptions/6.md), and so is a row that ends its
RECV alone (notes/assumptions/7.md). -/
def ended (s : State) (status : Bool) (d : Disposition) : State :=
  { s with
    frame := { s.frame with length := 0, netPacket := [] }
    msg := []
    stuffed := []
    pkt := []
    raw := []
    numFrames := 0
    fragIndex := 0
    scanIndex := 0
    result := .recv status d }

/-- The state with other control bytes in the registers, as the rows SINGLE, FIRST, LAST and MIDDLE put them there:
the model's choice (notes/assumptions/7.md). -/
def withControl (s : State) (c0 c1 : Byte) : State :=
  { s with frame := { s.frame with control0 := c0, control1 := c1 } }

/-- Several RECVs with nothing between. -/
def recvAll : List Bytes → State → Host.Outcome State Fault Refusal
  | [], s => .next s
  | r :: rs, s =>
    match exec (.recv r) s with
    | .next t => recvAll rs t
    | .fault e => .fault e
    | .refused e => .refused e

/-- Several operations with nothing between. -/
def execAll : List Instr → State → Host.Outcome State Fault Refusal
  | [], s => .next s
  | i :: is, s =>
    match exec i s with
    | .next t => execAll is t
    | .fault e => .fault e
    | .refused e => .refused e

/-- The body bytes of an encoded body byte. -/
def bodyBytes (i : Instr) : Bytes :=
  match encode i with
  | .body bs => bs
  | _ => []

end Sys2Proof.Claims

open Sys2Proof Sys2Proof.Machine

/-! ## Reset, NOP, and the step -/

/-- Rules R40, R250, R251: what reset and the RESET operation leave. -/
def Obligations.ResetLeavesInitialState : Prop :=
  (∀ cfg : Cfg,
    let t := State.resetWith cfg
    t.cfg = cfg ∧ t.error = false ∧ t.reasm = [] ∧ t.frame.header = 0x7D ∧ t.frame.footer = 0x7D ∧
      t.frame.length = 0 ∧ t.frame.netPacket = [] ∧ t.msg = [] ∧ t.stuffed = []) ∧
  (∀ s : State, ∃ t, exec .reset s = .next t ∧
    t.cfg = s.cfg ∧ t.error = false ∧ t.reasm = [] ∧ t.frame.header = 0x7D ∧ t.frame.footer = 0x7D ∧
      t.frame.length = 0 ∧ t.frame.netPacket = [] ∧ t.msg = [] ∧ t.stuffed = []) ∧
  State.reset.error = false ∧ State.reset.reasm = []

/-- Rule R200: RESET clears `error` and `reasm`, emits no event, returns nothing and keeps `cfg`; rule R40: `length`,
`net_packet`, `msg` and `stuffed` are empty. That the operands, `numFrames` and the indices are emptied too, and that the
registers that rule R40 leaves unspecified keep their values, is the model's (notes/assumptions/6.md). -/
def Obligations.ResetOperationResult : Prop :=
  ∀ s : State, exec .reset s = .next
    { s with
      error := false
      reasm := []
      frame := { s.frame with length := 0, netPacket := [] }
      msg := []
      stuffed := []
      pkt := []
      raw := []
      numFrames := 0
      fragIndex := 0
      scanIndex := 0
      result := .nothing }

/-- Rule R201: NOP changes no state, emits no event and returns nothing. -/
def Obligations.NopChangesNothing : Prop :=
  ∀ s : State, exec .nop s = .next { s with result := .nothing }

/-- The invariant of `StepKeepsInvariant` holds after reset, whatever the configuration. -/
def Obligations.ResetMeetsInvariant : Prop := ∀ cfg : Cfg, (State.resetWith cfg).Inv

/-- Rules R26, R57, R60: a step takes the next transaction presented and runs the instruction it carries; with
none presented nothing happens. -/
def Obligations.StepRunsDecodedInstruction : Prop :=
  (∀ (s : State) (t : Transaction) (rest : List Transaction) (i : Instr),
    s.inbox = t :: rest → decode t = .ok i → step s = exec i { s with inbox := rest }) ∧
  (∀ (s : State) (rest : List Transaction) (i : Instr),
    i.wellFormed = true → s.inbox = encode i :: rest → step s = exec i { s with inbox := rest }) ∧
  (∀ s : State, s.inbox = [] → step s = .next s)

/-- Rule R37: the accessors read `error` and `reasm_len`. -/
def Obligations.AccessorsReadState : Prop :=
  ∀ s : State, s.Inv →
    (s.errorQ = 1 ↔ s.error = true) ∧ (s.errorQ = 0 ↔ s.error = false) ∧
      s.reasmLenQ.toNat = s.reasm.length

/-- Every step from a state with the invariant keeps it (rules R22, R39), and no operation changes `cfg`
(rule R204). -/
def Obligations.StepKeepsInvariant : Prop :=
  ∀ s t : State, s.Inv → step s = .next t → t.Inv ∧ t.cfg = s.cfg

/-- Between the operations of a host `net_packet`, `msg` and `stuffed` are released (rules R29, R65), and the operands
`pkt` and `raw` and the loop indices, which do not outlive an operation (rules R26, R30), are empty or 0. That the model
holds the last group at empty or 0, with `numFrames` among them, is its own (notes/assumptions/6.md). The registers that
keep their last values (`control`, `addressing`, `checksum`, `crc`, `crcOk`, `dst`; the same entry) are not among these. -/
def Obligations.HostStepsReleaseBuffersAndIndices : Prop :=
  ∀ s t : State, s.HostOnly → s.Released → step s = .next t → t.Released ∧ t.HostOnly

/-- Rule R203: every operation whose operands meet the length bounds has its next state. -/
def Obligations.HostStepsAlwaysAnswer : Prop := ∀ s : State, s.HostOnly → ∃ t, step s = .next t

/-! ## Encodings -/

/-- Words written out from 30_encoding.md and the table decode to the instructions they stand for. How a number of the
table is read (bytes most significant first, the formats tried in an order, a 2-bit code as an 8-bit word, empty operands
and `dst` 0) is the model's choice (notes/assumptions/5.md); the bits are the spec's. -/
def Obligations.SpecWordsDecode : Prop :=
  decodeTableWord 8 0b00 = some .nop ∧
  decodeTableWord 8 0b01 = some (.send [] 0) ∧
  decodeTableWord 8 0b10 = some (.recv []) ∧
  decodeTableWord 8 0b11 = some .reset ∧
  decodeTableWord 8 0b01111101 = some .flag ∧
  decodeTableWord 16 0b0111111001011101 = some .escFlag ∧
  decodeTableWord 16 0b0111111001011110 = some .escEsc ∧
  decodeTableWord 16 0b0111111000101010 = some (.escAny 0x2A) ∧
  decodeTableWord 16 0b0000010100000000 = some (.single 0x05) ∧
  decodeTableWord 16 0b0000000000000010 = some (.first 0x02) ∧
  decodeTableWord 16 0b0000001000000010 = some (.last 0x02) ∧
  decodeTableWord 16 0b0000001100000010 = some (.middle 0x03 0x02) ∧
  decode (.msg [0x01, 0x01, 0x0A, 0x0B, 0x01, 0x09, 0xF6, 0xD2]) =
    .ok (.msg 0x01 0x01 0x0A 0x0B 0x01 [0x09] 0xF6 0xD2) ∧
  decode (.disp 0b110) = .ok .malformed ∧
  decode (.disp 0b111) = .error .dispositionReserved

/-- Decoding an encoded well-formed instruction gives it back, every row of the table, every operand. -/
def Obligations.DecodeOfEncode : Prop :=
  ∀ i : Instr, i.wellFormed = true → decode (encode i) = .ok i

/-- Whatever the decoder accepts is a well-formed instruction of the format it came in. -/
def Obligations.DecodedIsWellFormed : Prop :=
  ∀ (t : Transaction) (i : Instr), decode t = .ok i → i.wellFormed = true ∧ i.format = t.format

/-- Rule R78: the four classes are mutually exclusive, cover all pairs, and the control bytes decode to the
row of their class. -/
def Obligations.FrameClassesPartition : Prop :=
  ∀ c0 c1 : Byte,
    (frameClass c0 c1 = .single ↔ c1 = 0) ∧
    (frameClass c0 c1 = .first ↔ c1 ≠ 0 ∧ c0 = 0) ∧
    (frameClass c0 c1 = .last ↔ c1 ≠ 0 ∧ c0 = c1) ∧
    (frameClass c0 c1 = .middle ↔ c1 ≠ 0 ∧ c0 ≠ 0 ∧ c0 ≠ c1) ∧
    (c1 = 0 → decode (.ctrl c0 c1) = .ok (.single c0)) ∧
    (c1 ≠ 0 → c0 = 0 → decode (.ctrl c0 c1) = .ok (.first c1)) ∧
    (c1 ≠ 0 → c0 = c1 → decode (.ctrl c0 c1) = .ok (.last c0)) ∧
    (c1 ≠ 0 → c0 ≠ 0 → c0 ≠ c1 → decode (.ctrl c0 c1) = .ok (.middle c0 c1))

/-! ## The CRC engine -/

/-- Rule R100: CRC16 starts at 0x0000, takes the bytes in order into bits 15:8, and after each makes eight bit
steps that test the top bit before the shift; it writes the CRC register and nothing else. -/
def Obligations.Crc16Computes : Prop :=
  (∀ poly : Half, crc16 poly [] = 0 ∧
    ∀ (bs : Bytes) (b : Byte), crc16 poly (bs ++ [b]) =
      (fun c : Half => if c.getLsbD 15 then (c <<< 1) ^^^ poly else c <<< 1)^[8]
        (crc16 poly bs ^^^ (b.setWidth 16 <<< 8))) ∧
  (∀ (bs : Bytes) (s : State), exec (.crc16 bs) s =
    .next { s with crc := crc16 s.cfg.poly bs, result := .nothing })

/-- Rule R103, laws 1, 2 and 7: the empty string, zero bytes in front, and the string 0x01. -/
def Obligations.Crc16LeadingZerosDoNotCount : Prop :=
  ∀ (poly : Half) (k : Nat) (bs : Bytes),
    crc16 poly (List.replicate k 0x00 ++ bs) = crc16 poly bs ∧
      crc16 poly (List.replicate k 0x00) = 0 ∧ crc16 poly [0x01] = poly

/-- Rule R103, law 3: linearity. -/
def Obligations.Crc16IsLinear : Prop :=
  ∀ (poly : Half) (a b : Bytes), a.length = b.length →
    crc16 poly (List.zipWith (· ^^^ ·) a b) = crc16 poly a ^^^ crc16 poly b

/-- Rule R103, law 4: the residue. -/
def Obligations.Crc16ResidueIsZero : Prop :=
  ∀ (poly : Half) (p : Bytes),
    crc16 poly (p ++ [(crc16 poly p).extractLsb' 8 8, (crc16 poly p).extractLsb' 0 8]) = 0

/-- Rule R103, law 6: flipping any one bit changes the CRC, at every legal polynomial. -/
def Obligations.Crc16SeesEveryBitFlip : Prop :=
  ∀ (cfg : Cfg) (p q : Bytes) (b : Byte) (k : Nat), k < 8 →
    crc16 cfg.poly (p ++ [b ^^^ (1 <<< k)] ++ q) ≠ crc16 cfg.poly (p ++ [b] ++ q)

/-- Rule R102, second sentence: CRC16 is long division of the string followed by sixteen zero bits. -/
def Obligations.Crc16IsLongDivision : Prop :=
  ∀ (poly : Half) (bs : Bytes),
    crc16 poly bs = Claims.longDivision poly (Claims.bits bs ++ List.replicate 16 false)

/-- Rules R101, R102: CRC16 is the remainder of `S(x) * x^16` by `G(x) = x^16 + POLY(x)` over GF(2). -/
def Obligations.Crc16IsPolynomialRemainder : Prop :=
  ∀ (poly : Half) (bs : Bytes),
    Claims.polyOf (Claims.halfBits (crc16 poly bs)) =
      Polynomial.modByMonic (Claims.polyOf (Claims.bits bs) * Polynomial.X ^ 16)
        (Polynomial.X ^ 16 + Claims.polyOf (Claims.halfBits poly))

/-- Rules R104, R105: CRC.GEN puts the CRC of the protected bytes into `checksum`, high byte first, and leaves
the rest. -/
def Obligations.CrcGenWritesChecksum : Prop :=
  ∀ s : State,
    let f := s.frame
    let r := crc16 s.cfg.poly
      ([f.control0, f.control1, f.addressing0, f.addressing1, f.length] ++ f.netPacket)
    exec .crcGen s = .next
      { s with
        crc := r
        frame := { f with checksum0 := r.extractLsb' 8 8, checksum1 := r.extractLsb' 0 8 }
        result := .nothing }

/-- Rule R106: CRC.CHK compares byte for byte, gives one bit and leaves the rest. A passing bit means that the CRC of
the whole message is 0x0000, and the all-zero message passes. The converse, which rule R106 infers for every `POLY`,
holds when `POLY` is odd and fails for an even one (notes/assumptions/14.md). -/
def Obligations.CrcChkComparesChecksum : Prop :=
  ∀ s : State,
    let f := s.frame
    let guarded := [f.control0, f.control1, f.addressing0, f.addressing1, f.length] ++ f.netPacket
    let r := crc16 s.cfg.poly guarded
    ∃ ok : Bool,
      exec .crcChk s = .next { s with crc := r, crcOk := ok, result := .nothing } ∧
      (ok = true ↔ r.extractLsb' 8 8 = f.checksum0 ∧ r.extractLsb' 0 8 = f.checksum1) ∧
      (ok = true → crc16 s.cfg.poly (guarded ++ [f.checksum0, f.checksum1]) = 0) ∧
      (s.cfg.poly.getLsbD 0 = true → crc16 s.cfg.poly (guarded ++ [f.checksum0, f.checksum1]) = 0 →
        ok = true) ∧
      (f = Frame.default → ok = true)

/-! ## The stuffer and destuffer -/

/-- Rule R120: PACK lays out the message and leaves the rest; it is `7 + length` bytes long. -/
def Obligations.PackLaysOutMessage : Prop :=
  ∀ s : State,
    let f := s.frame
    let m := [f.control0, f.control1, f.addressing0, f.addressing1, f.length] ++ f.netPacket ++
      [f.checksum0, f.checksum1]
    exec .pack s = .next { s with msg := m, result := .nothing } ∧
      (f.length.toNat = f.netPacket.length → m.length = 7 + f.length.toNat)

/-- Rules R121, R122: STUFF escapes the message between two `FLAG`s and writes no other buffer. That the row runs alone,
and that the scan index then stands behind the message, is the model's (notes/assumptions/7.md and 6.md). -/
def Obligations.StuffEscapesMessage : Prop :=
  ∀ s : State, exec .stuff s = .next
    { s with
      stuffed := [0x7D] ++
        s.msg.flatMap (fun b => if b = 0x7D ∨ b = 0x7E then [0x7E, b ^^^ 0x20] else [b]) ++ [0x7D]
      scanIndex := s.msg.length
      result := .nothing }

/-- Rule R124: the length of a stuffed frame. -/
def Obligations.StuffedLength : Prop :=
  (∀ m : Bytes, (stuffBytes m).length =
    m.length + m.countP (fun b => b == 0x7D || b == 0x7E) + 2) ∧
  (∀ f : Frame, f.length.toNat = f.netPacket.length →
    9 + f.length.toNat ≤ (stuffBytes (packMessage f)).length ∧
      (stuffBytes (packMessage f)).length ≤ 2 * (7 + f.length.toNat) + 2)

/-- Rule R129: DESTUFF after STUFF gives every message back and never ends dangling; UNPACK after PACK restores
every field. -/
def Obligations.StuffAndPackRoundTrip : Prop :=
  (∀ s : State, ∃ t u, exec .stuff s = .next t ∧ exec .destuff { t with raw := t.stuffed } = .next u ∧
    u.msg = s.msg ∧ u.result = .nothing) ∧
  (∀ (s : State) (g : Frame), s.frame.length.toNat = s.frame.netPacket.length →
    ∃ t u, exec .pack s = .next t ∧ exec .unpack { t with frame := g } = .next u ∧
      u.frame = s.frame ∧ u.result = .nothing)

/-- Rule R130: the body of a stuffed frame never holds 0x7D, and 0x7E only before 0x5D or 0x5E; and STUFF after
DESTUFF need not give the raw buffer back. -/
def Obligations.StuffedBodyIsCanonical : Prop :=
  (∀ (m : Bytes) (i : Nat) (b : Byte), (bodyOf (stuffBytes m))[i]? = some b →
    b ≠ 0x7D ∧
      (b = 0x7E → (bodyOf (stuffBytes m))[i + 1]? = some 0x5D ∨
        (bodyOf (stuffBytes m))[i + 1]? = some 0x5E)) ∧
  Claims.destuff [0x7D, 0x7E, 0x2A, 0x7D] = some [0x0A] ∧ stuffBytes [0x0A] = [0x7D, 0x0A, 0x7D]

/-- Rules R125, R126, R131: DESTUFF runs the loop of rule R125 on a delimited buffer; a dangling escape, or a buffer that
is not delimited, is MALFORMED and changes no persistent state. That the row run alone ends its RECV, what it empties and
keeps (`Claims.ended`), and where it leaves the scan index is the model's (notes/assumptions/6.md and 7.md). -/
def Obligations.DestuffRunsTheLoop : Prop :=
  (∀ (s : State) (m : Bytes), ¬ Claims.BadDelimiters s.raw → Claims.destuff s.raw = some m →
    exec .destuff s = .next { s with msg := m, scanIndex := s.raw.length - 2, result := .nothing }) ∧
  (∀ s : State, ¬ Claims.BadDelimiters s.raw → Claims.destuff s.raw = none →
    exec .destuff s = .next (Claims.ended s false .malformed)) ∧
  (∀ s : State, Claims.BadDelimiters s.raw →
    exec .destuff s = .next (Claims.ended s false .malformed))

/-- Rule R128: UNPACK splits a message whose length fits its `length` byte, and every other message is MALFORMED. That
the row run alone ends its RECV, and what it empties and keeps (`Claims.ended`), is the model's (notes/assumptions/6.md
and 7.md). -/
def Obligations.UnpackSplitsMessage : Prop :=
  (∀ (s : State) (c0 c1 a0 a1 len k0 k1 : Byte) (p : Bytes), p.length = len.toNat →
    s.msg = [c0, c1, a0, a1, len] ++ p ++ [k0, k1] →
    exec .unpack s = .next
      { s with
        frame :=
          { control0 := c0, control1 := c1, addressing0 := a0, addressing1 := a1, length := len,
            netPacket := p, checksum0 := k0, checksum1 := k1 }
        result := .nothing }) ∧
  (∀ s : State, s.msg.length < 7 ∨ s.msg.length ≠ 7 + (s.msg.getD 4 0).toNat →
    exec .unpack s = .next (Claims.ended s false .malformed))

/-- Rules R59, R70: a message in the buffer has every field at its offset. That the row MSG puts it there is
the model's (notes/assumptions/7.md). -/
def Obligations.MessageOffsets : Prop :=
  ∀ (s : State) (c0 c1 a0 a1 len k0 k1 : Byte) (p : Bytes), p.length = len.toNat →
    ∃ m : Bytes,
      exec (.msg c0 c1 a0 a1 len p k0 k1) s = .next { s with msg := m, result := .nothing } ∧
      m.length = 7 + len.toNat ∧ m[0]? = some c0 ∧ m[1]? = some c1 ∧ m[2]? = some a0 ∧
      m[3]? = some a1 ∧ m[4]? = some len ∧ (∀ i, i < len.toNat → m[5 + i]? = p[i]?) ∧
      m[5 + len.toNat]? = some k0 ∧ m[6 + len.toNat]? = some k1

/-- Rules R74, R75: what each encoded body byte yields, and that a delimiter yields nothing. That the rows run as
turns of DESTUFF's loop is the model's (notes/assumptions/7.md). -/
def Obligations.BodyBytesYield : Prop :=
  (∀ s : State, exec .flag s = .next { s with result := .nothing }) ∧
  (∀ s : State, exec .escFlag s =
    .next { s with msg := s.msg ++ [0x7D], scanIndex := s.scanIndex + 2, result := .nothing }) ∧
  (∀ s : State, exec .escEsc s =
    .next { s with msg := s.msg ++ [0x7E], scanIndex := s.scanIndex + 2, result := .nothing }) ∧
  (∀ (x : Byte) (s : State), exec (.escAny x) s =
    .next { s with msg := s.msg ++ [x ^^^ 0x20], scanIndex := s.scanIndex + 2, result := .nothing }) ∧
  (∀ (b : Byte) (s : State), b ≠ 0x7E → exec (.lit b) s =
    .next { s with msg := s.msg ++ [b], scanIndex := s.scanIndex + 1, result := .nothing })

/-- DESTUFF is the run of the encoded bytes of its body: every body that rule R125's loop accepts is a sequence of
well-formed body rows, and running them leaves the message and the scan index that DESTUFF leaves. That the body rows run
as turns of DESTUFF's loop is the model's choice (notes/assumptions/7.md). -/
def Obligations.DestuffIsTheRunOfItsBody : Prop :=
  ∀ (s : State) (m : Bytes), ¬ Claims.BadDelimiters s.raw → Claims.destuff s.raw = some m →
    ∃ is : List Instr,
      (∀ i ∈ is, i.wellFormed = true ∧ i.format = .wire) ∧
      is.flatMap Claims.bodyBytes = (s.raw.drop 1).take (s.raw.length - 2) ∧
      Claims.execAll is { s with msg := [], scanIndex := 0, result := .nothing } = exec .destuff s

/-! ## The fragmenter -/

/-- Rule R150: `num_frames` is the least positive number of frames of `C` bytes that holds the packet, between
1 and 255; FRAG computes it. -/
def Obligations.FrameCountIsLeast : Prop :=
  (∀ L C : Nat, L ≤ 255 → 1 ≤ C → C ≤ 119 →
    let n := frameCount L C
    1 ≤ n ∧ n ≤ 255 ∧ L ≤ n * C ∧ (∀ k, 1 ≤ k → L ≤ k * C → n ≤ k) ∧ (L = 0 → n = 1)) ∧
  (∀ s : State, ∃ t, exec .frag s = .next t ∧ t.numFrames = frameCount s.pkt.length s.cfg.capacity)

/-- Rules R151, R152: FRAG fills the frame that the fragment index selects and leaves the rest. -/
def Obligations.FragFillsFrame : Prop :=
  ∀ s : State,
    let C := s.cfg.capacity
    let n := Claims.numFrames s.pkt.length C
    s.pkt.length ≤ 255 → s.fragIndex < n →
    exec .frag s = .next
      { s with
        numFrames := n
        frame :=
          { control0 := BitVec.ofNat 8 s.fragIndex
            control1 := BitVec.ofNat 8 (n - 1)
            addressing0 := s.cfg.localAddr
            addressing1 := s.dst
            length := if s.fragIndex < n - 1 then BitVec.ofNat 8 C
              else BitVec.ofNat 8 (s.pkt.length - (n - 1) * C)
            netPacket := if s.fragIndex < n - 1 then (s.pkt.drop (s.fragIndex * C)).take C
              else s.pkt.drop ((n - 1) * C)
            checksum0 := s.frame.checksum0
            checksum1 := s.frame.checksum1 }
        result := .nothing }

/-- Rule R153: the slices of a packet concatenate to it; all but the last are full; the classes come FIRST,
MIDDLE, ..., LAST, or SINGLE. -/
def Obligations.FragmentsRebuildPacket : Prop :=
  ∀ (cfg : Cfg) (pkt : Bytes) (dst : Byte) (g : Frame), pkt.length ≤ 255 →
    let n := frameCount pkt.length cfg.capacity
    let frame := fun i => fragFrame cfg pkt dst n i g
    ((List.range n).flatMap fun i => (frame i).netPacket) = pkt ∧
    (∀ i, i < n → (frame i).length.toNat = (frame i).netPacket.length ∧
      (i + 1 < n → (frame i).length.toNat = cfg.capacity) ∧
      (i + 1 = n → pkt ≠ [] → 1 ≤ (frame i).length.toNat ∧ (frame i).length.toNat ≤ cfg.capacity) ∧
      (pkt = [] → (frame i).length = 0)) ∧
    (pkt.length ≤ cfg.capacity → n = 1 ∧ (frame 0).control0 = 0 ∧ (frame 0).control1 = 0 ∧
      (frame 0).frameClass = .single) ∧
    (2 ≤ n → (frame 0).frameClass = .first ∧ (frame (n - 1)).frameClass = .last ∧
      ∀ i, 0 < i → i + 1 < n → (frame i).frameClass = .middle)

/-! ## The receive stages -/

/-- Rule R154: FILTER lets a frame for this address or for 0xFF pass with nothing changed, and ends every other with
DROP_ADDR, no persistent state written. That the row run alone ends its RECV, and what it empties and keeps
(`Claims.ended`), is the model's (notes/assumptions/6.md and 7.md). -/
def Obligations.FilterAcceptsOwnAndBroadcast : Prop :=
  ∀ s : State,
    ((s.frame.addressing1 = s.cfg.localAddr ∨ s.frame.addressing1 = 0xFF) →
      exec .filter s = .next { s with result := .nothing }) ∧
    (s.frame.addressing1 ≠ s.cfg.localAddr → s.frame.addressing1 ≠ 0xFF →
      exec .filter s = .next (Claims.ended s true .dropAddr))

/-- Rules R162, R163: GATE ends a fragment under `error = 1` with DROP_QUARANTINE, and a LAST one clears `error`; every
other frame passes with nothing changed. That the row run alone ends its RECV, and what it empties and keeps
(`Claims.ended`), is the model's (notes/assumptions/6.md and 7.md). -/
def Obligations.GateQuarantinesFragments : Prop :=
  ∀ s : State,
    (s.error = true → s.frame.control1 ≠ 0 → s.frame.control0 ≠ s.frame.control1 →
      exec .gate s = .next (Claims.ended s true .dropQuarantine)) ∧
    (s.error = true → s.frame.control1 ≠ 0 → s.frame.control0 = s.frame.control1 →
      exec .gate s = .next { Claims.ended s true .dropQuarantine with error := false }) ∧
    (s.error = false ∨ s.frame.control1 = 0 → exec .gate s = .next { s with result := .nothing })

/-- Rules R170 to R174: for each class REASM does one thing, that of the row of its frame's class. That SINGLE, FIRST,
LAST and MIDDLE are operations, which put their bytes into the registers and run REASM, is the model's choice
(notes/assumptions/7.md). -/
def Obligations.ReasmActsByClass : Prop :=
  ∀ s : State,
    let c0 := s.frame.control0
    let c1 := s.frame.control1
    (c1 = 0 → exec .reasm s = exec (.single c0) s) ∧
    (c1 ≠ 0 → c0 = 0 → exec .reasm s = exec (.first c1) s) ∧
    (c1 ≠ 0 → c0 = c1 → exec .reasm s = exec (.last c0) s) ∧
    (c1 ≠ 0 → c0 ≠ 0 → c0 ≠ c1 → exec .reasm s = exec (.middle c0 c1) s) ∧
    ∃ t, exec .reasm s = .next t ∧ t.cfg = s.cfg ∧ t.inbox = s.inbox

/-- Rule R170: a SINGLE frame is delivered at once, from its own source, `reasm` and `error` unchanged. That the row
runs alone, puts its control bytes into the registers (`Claims.withControl`), and what it empties and keeps
(`Claims.ended`), is the model's (notes/assumptions/6.md and 7.md). -/
def Obligations.SingleIsDelivered : Prop :=
  ∀ (s : State) (c0 : Byte), exec (.single c0) s = .next
    { Claims.ended (Claims.withControl s c0 0) true .delivered with
      events := s.events ++ [.deliver s.frame.netPacket s.frame.addressing0] }

/-- Rule R171: a FIRST fragment that fits starts a new buffer. That the row runs alone, puts its control bytes into
the registers (`Claims.withControl`), and what it empties and keeps (`Claims.ended`), is the model's
(notes/assumptions/6.md and 7.md). -/
def Obligations.FirstStartsBuffer : Prop :=
  ∀ (s : State) (c1 : Byte), c1 ≠ 0 → s.frame.length.toNat ≤ s.cfg.reasmMax →
    exec (.first c1) s = .next
      { Claims.ended (Claims.withControl s 0 c1) true .buffered with reasm := s.frame.netPacket }

/-- Rules R172, R173: a MIDDLE fragment that fits is appended; a LAST one is appended, and the buffer is delivered
from the LAST fragment's source and released. That the row runs alone, puts its control bytes into the registers
(`Claims.withControl`), and what it empties and keeps (`Claims.ended`), is the model's (notes/assumptions/6.md and
7.md). -/
def Obligations.MiddleAppendsLastDelivers : Prop :=
  ∀ s : State, s.reasm.length + s.frame.length.toNat ≤ s.cfg.reasmMax →
    (∀ c0 c1 : Byte, c1 ≠ 0 → c0 ≠ 0 → c0 ≠ c1 →
      exec (.middle c0 c1) s = .next
        { Claims.ended (Claims.withControl s c0 c1) true .buffered with
          reasm := s.reasm ++ s.frame.netPacket }) ∧
    (∀ c : Byte, c ≠ 0 →
      exec (.last c) s = .next
        { Claims.ended (Claims.withControl s c c) true .delivered with
          reasm := []
          events := s.events ++ [.deliver (s.reasm ++ s.frame.netPacket) s.frame.addressing0] })

/-- Rule R176: a fragment that does not fit is dropped, `reasm` is emptied, and `error` is set unless it was the
LAST. That the row runs alone, puts its control bytes into the registers (`Claims.withControl`), and what it empties
and keeps (`Claims.ended`), is the model's (notes/assumptions/6.md and 7.md). -/
def Obligations.OverflowDropsFragment : Prop :=
  ∀ s : State,
    (∀ c1 : Byte, c1 ≠ 0 → s.frame.length.toNat > s.cfg.reasmMax →
      exec (.first c1) s = .next
        { Claims.ended (Claims.withControl s 0 c1) true .dropOverflow with reasm := [], error := true }) ∧
    (∀ c0 c1 : Byte, c1 ≠ 0 → c0 ≠ 0 → c0 ≠ c1 →
      s.reasm.length + s.frame.length.toNat > s.cfg.reasmMax →
      exec (.middle c0 c1) s = .next
        { Claims.ended (Claims.withControl s c0 c1) true .dropOverflow with
          reasm := [], error := true }) ∧
    (∀ c : Byte, c ≠ 0 → s.reasm.length + s.frame.length.toNat > s.cfg.reasmMax →
      exec (.last c) s = .next
        { Claims.ended (Claims.withControl s c c) true .dropOverflow with reasm := [] })

/-- Control bytes of another class are no FIRST, LAST or MIDDLE (rule R78), 0x7E is no LIT (rule R75), and a payload that
the `length` byte does not count is no message (rule R72). That the model refuses such a term by name is its choice
(notes/assumptions/13.md). -/
def Obligations.IllFormedRowsRefused : Prop :=
  ∀ s : State,
    exec (.first 0) s = .refused .notOfThisClass ∧ exec (.last 0) s = .refused .notOfThisClass ∧
    (∀ c0 c1 : Byte, c1 = 0 ∨ c0 = 0 ∨ c0 = c1 →
      exec (.middle c0 c1) s = .refused .notOfThisClass) ∧
    exec (.lit 0x7E) s = .refused .literalIsEscape ∧
    (∀ (c0 c1 a0 a1 len k0 k1 : Byte) (p : Bytes), p.length ≠ len.toNat →
      exec (.msg c0 c1 a0 a1 len p k0 k1) s = .refused .lengthFieldMismatch)

/-! ## The dispositions -/

/-- Rule R220, the rows that drop: each writes exactly what its row lists. That the rows are operations, and what they
empty and keep (`Claims.ended`), is the model's (notes/assumptions/7.md and 6.md). -/
def Obligations.DropRowsWriteWhatTheyList : Prop :=
  ∀ s : State,
    exec .dropAddr s = .next (Claims.ended s true .dropAddr) ∧
    exec .dropQuarantine s = .next
      { Claims.ended s true .dropQuarantine with
        error := if s.frame.control1 ≠ 0 ∧ s.frame.control0 = s.frame.control1 then false else s.error } ∧
    exec .dropCrc s = .next { Claims.ended s true .dropCrc with error := true } ∧
    exec .dropOverflow s = .next
      { Claims.ended s true .dropOverflow with
        reasm := []
        error := if s.frame.control1 ≠ 0 ∧ s.frame.control0 = s.frame.control1 then s.error else true } ∧
    exec .malformed s = .next (Claims.ended s false .malformed)

/-- Rule R220, DELIVERED and BUFFERED: a SINGLE frame's payload is delivered and nothing written; a LAST fragment that
fits completes and empties the buffer; a FIRST or MIDDLE one that fits is stored. That the rows are operations, and what
they empty and keep (`Claims.ended`), is the model's (notes/assumptions/7.md and 6.md). -/
def Obligations.AcceptRowsDeliverOrStore : Prop :=
  ∀ s : State,
    (s.frame.control1 = 0 → exec .delivered s = .next
      { Claims.ended s true .delivered with
        events := s.events ++ [.deliver s.frame.netPacket s.frame.addressing0] }) ∧
    (s.frame.control1 ≠ 0 → s.frame.control0 = s.frame.control1 →
      s.reasm.length + s.frame.length.toNat ≤ s.cfg.reasmMax → exec .delivered s = .next
        { Claims.ended s true .delivered with
          reasm := []
          events := s.events ++ [.deliver (s.reasm ++ s.frame.netPacket) s.frame.addressing0] }) ∧
    (s.frame.control1 ≠ 0 → s.frame.control0 = 0 → s.frame.length.toNat ≤ s.cfg.reasmMax →
      exec .buffered s = .next
        { Claims.ended s true .buffered with reasm := s.frame.netPacket }) ∧
    (s.frame.control1 ≠ 0 → s.frame.control0 ≠ 0 → s.frame.control0 ≠ s.frame.control1 →
      s.reasm.length + s.frame.length.toNat ≤ s.cfg.reasmMax →
      exec .buffered s = .next
        { Claims.ended s true .buffered with reasm := s.reasm ++ s.frame.netPacket })

/-! ## SEND -/

/-- Rules R190, R192: SEND of a packet within its bound returns `ok = 1`, emits the stuffed frames of the packet in
order and nothing else, releases `net_packet`, `msg` and `stuffed`, and leaves `cfg`, `error` and `reasm`. That it empties
`pkt`, `raw`, `numFrames` and the indices too, and keeps `dst` and the bit of CRC.CHK, is the model's
(notes/assumptions/6.md). -/
def Obligations.SendEmitsItsFrames : Prop :=
  ∀ (s : State) (pkt : Bytes) (dst : Byte), pkt.length ≤ 255 →
    ∃ t, exec (.send pkt dst) s = .next t ∧
      t.events = s.events ++ (Claims.wireFrames s.cfg pkt dst).map Event.tx ∧
      t.result = .send true ∧ t.cfg = s.cfg ∧ t.error = s.error ∧ t.reasm = s.reasm ∧
      t.inbox = s.inbox ∧ t.crcOk = s.crcOk ∧ t.dst = dst ∧ t.Released

/-- Rule R193: exactly `num_frames` `Tx` events and no `Deliver`, frame by frame in ascending `control[0]`, their
bytes in total within the bounds. Rules R11, R29: each fits the buffer of a stuffed frame. -/
def Obligations.SendFrameCountAndBytes : Prop :=
  ∀ (s : State) (pkt : Bytes) (dst : Byte), pkt.length ≤ 255 →
    let n := Claims.numFrames pkt.length s.cfg.capacity
    ∃ (t : State) (fs : List Bytes),
      exec (.send pkt dst) s = .next t ∧ t.events = s.events ++ fs.map Event.tx ∧ fs.length = n ∧
      (∀ i r, fs[i]? = some r → ∃ f, Claims.parse r = some f ∧ f.control0.toNat = i ∧
        f.control1.toNat = n - 1) ∧
      (∀ r ∈ fs, r.length ≤ 2 * (7 + s.cfg.capacity) + 2 ∧ r.length ≤ 254) ∧
      pkt.length + 9 * n ≤ fs.flatten.length ∧ fs.flatten.length ≤ 2 * pkt.length + 16 * n

/-- Rule R191 and the bound of rule R195: an operand longer than 255 bytes is refused, by the operation and by the
decoder. -/
def Obligations.LongOperandsRefused : Prop :=
  ∀ s : State,
    (∀ (pkt : Bytes) (dst : Byte), pkt.length > 255 →
      exec (.send pkt dst) s = .refused .payloadTooLong ∧
        decode (.cmd 0b01 pkt dst) = .error .payloadTooLong) ∧
    (∀ (raw : Bytes) (dst : Byte), raw.length > 255 →
      exec (.recv raw) s = .refused .rawTooLong ∧
        decode (.cmd 0b10 raw dst) = .error .rawTooLong)

/-! ## RECV -/

/-- Rules R195, R197: RECV is the transition function that its pseudocode gives, in every state; it releases its transient
buffers and leaves `cfg`. That the operands, `numFrames` and the indices are emptied too, and `dst` is kept, is the
model's (notes/assumptions/6.md). -/
def Obligations.RecvIsItsTransitionFunction : Prop :=
  ∀ (s : State) (raw : Bytes), raw.length ≤ 255 →
    let o := Claims.recv s.cfg s.error s.reasm raw
    ∃ t, exec (.recv raw) s = .next t ∧ t.error = o.error ∧ t.reasm = o.reasm ∧
      t.events = s.events ++ o.events ∧ t.result = .recv o.status o.disp ∧
      t.cfg = s.cfg ∧ t.inbox = s.inbox ∧ t.dst = s.dst ∧ t.Released

/-- Rules R83, R196, R224: `status` is 0 exactly for the malformed raw buffers M1 to M5, and then nothing
persistent changes. -/
def Obligations.RecvStatusIsStructural : Prop :=
  ∀ (s : State) (raw : Bytes), raw.length ≤ 255 →
    ∃ (t : State) (status : Bool) (d : Disposition),
      exec (.recv raw) s = .next t ∧ t.result = .recv status d ∧
      (status = false ↔ d = .malformed) ∧
      (status = false ↔ Claims.BadDelimiters raw ∨ Claims.destuff raw = none ∨
        ∃ m, Claims.destuff raw = some m ∧ Claims.BadMessage m) ∧
      (status = false → t.error = s.error ∧ t.reasm = s.reasm ∧ t.events = s.events)

/-- Rule R166: the complete transition table of `error` for a frame that passed UNPACK and FILTER; a frame that failed
either leaves `error`. -/
def Obligations.RecvFollowsErrorTable : Prop :=
  (∀ (s : State) (raw : Bytes) (f : Frame), raw.length ≤ 255 → Claims.parse raw = some f →
    Claims.Passes s.cfg f →
    let base := if frameClass f.control0 f.control1 = .first then [] else s.reasm
    let row := Claims.errorTable s.error (frameClass f.control0 f.control1)
      (decide (Claims.CrcGood s.cfg.poly f))
      (decide (base.length + f.netPacket.length > s.cfg.reasmMax)) s.reasm f.netPacket f.addressing0
    ∃ t, exec (.recv raw) s = .next t ∧ t.error = row.1 ∧ t.result = .recv true row.2.1 ∧
      t.reasm = row.2.2.1 ∧ t.events = s.events ++ row.2.2.2) ∧
  (∀ (s : State) (raw : Bytes), raw.length ≤ 255 →
    (∀ f, Claims.parse raw = some f → ¬ Claims.Passes s.cfg f) →
    ∃ t, exec (.recv raw) s = .next t ∧ t.error = s.error)

/-- Rule R226: of several conditions the first in the stage order is reported, and only its writes happen. -/
def Obligations.RecvPriority : Prop :=
  (∀ (s : State) (raw : Bytes), raw.length ≤ 255 → Claims.parse raw = none →
    ∃ t, exec (.recv raw) s = .next t ∧ t.result = .recv false .malformed ∧ t.error = s.error ∧
      t.reasm = s.reasm) ∧
  (∀ (s : State) (raw : Bytes) (f : Frame), raw.length ≤ 255 → Claims.parse raw = some f →
    ∃ t, exec (.recv raw) s = .next t ∧
      (¬ Claims.Passes s.cfg f →
        t.result = .recv true .dropAddr ∧ t.error = s.error ∧ t.reasm = s.reasm) ∧
      (Claims.Passes s.cfg f → s.error = true → f.control1 ≠ 0 →
        t.result = .recv true .dropQuarantine ∧ t.reasm = s.reasm ∧
          (t.error = false ↔ f.control0 = f.control1)) ∧
      (Claims.Passes s.cfg f → s.error = false ∨ f.control1 = 0 → ¬ Claims.CrcGood s.cfg.poly f →
        t.result = .recv true .dropCrc ∧ t.error = true ∧ t.reasm = s.reasm) ∧
      (Claims.Passes s.cfg f → s.error = false → f.control1 ≠ 0 → Claims.CrcGood s.cfg.poly f →
        (if f.control0 = 0 then 0 else s.reasm.length) + f.length.toNat > s.cfg.reasmMax →
        t.result = .recv true .dropOverflow ∧ t.reasm = [] ∧
          (t.error = false ↔ f.control0 = f.control1)))

/-- Rule R198: RECV emits at most one event, a `Deliver`, and exactly when its disposition is DELIVERED. -/
def Obligations.RecvDeliversExactlyWhenDelivered : Prop :=
  ∀ (s t : State) (raw : Bytes), exec (.recv raw) s = .next t →
    (t.result = .recv true .delivered ∧ ∃ p src, t.events = s.events ++ [.deliver p src]) ∨
    ((∃ status d, t.result = .recv status d ∧ d ≠ .delivered) ∧ t.events = s.events)

/-- Rule R179: a dropped frame leaves `reasm` as it was, and DROP_OVERFLOW alone empties it. -/
def Obligations.DropsKeepReassemblyBuffer : Prop :=
  ∀ (s t : State) (raw : Bytes) (status : Bool) (d : Disposition), exec (.recv raw) s = .next t →
    t.result = .recv status d →
    (d = .malformed ∨ d = .dropAddr ∨ d = .dropQuarantine ∨ d = .dropCrc → t.reasm = s.reasm) ∧
      (d = .dropOverflow → t.reasm = [])

/-! ## Rules over all operations -/

/-- Rule R228: from `error = 1` a step of a host's operations reaches `error = 0` only by RESET or by a RECV of a LAST
fragment that passes the address filter, and both do. -/
def Obligations.ErrorClearedInTwoWaysOnly : Prop :=
  (∀ s t : State, s.HostOnly → step s = .next t → s.error = true → t.error = false →
    (∃ data dst rest, s.inbox = .cmd 0b11 data dst :: rest) ∨
    (∃ raw dst rest f, s.inbox = .cmd 0b10 raw dst :: rest ∧ Claims.parse raw = some f ∧
      Claims.Passes s.cfg f ∧ Claims.IsLast f)) ∧
  (∀ (s : State) (raw : Bytes) (f : Frame), s.error = true → raw.length ≤ 255 → Claims.parse raw = some f →
    Claims.Passes s.cfg f → Claims.IsLast f → ∃ t, exec (.recv raw) s = .next t ∧ t.error = false) ∧
  (∀ s : State, ∃ t, exec .reset s = .next t ∧ t.error = false)

/-- Rule R23: no operation reads what an earlier one left in a transient register: two states that agree on `cfg`,
`error` and `reasm` give the same persistent state, events and result. -/
def Obligations.TransientsAreNeverReadFirst : Prop :=
  ∀ (s t : State) (i : Instr), s.cfg = t.cfg → s.error = t.error → s.reasm = t.reasm →
    s.events = t.events → i.format = .cmd → i.wellFormed = true →
    ∃ s' t', exec i s = .next s' ∧ exec i t = .next t' ∧ s'.error = t'.error ∧ s'.reasm = t'.reasm ∧
      s'.events = t'.events ∧ s'.result = t'.result

/-- Rules R32, R85: RECV never reads `C`: two receivers that differ in `C` alone make the same of every raw buffer. -/
def Obligations.RecvIgnoresCapacity : Prop :=
  ∀ (s : State) (cfg : Cfg) (raw : Bytes), raw.length ≤ 255 →
    cfg.localAddr = s.cfg.localAddr → cfg.poly = s.cfg.poly → cfg.reasmMax = s.cfg.reasmMax →
    ∃ t, exec (.recv raw) s = .next t ∧ exec (.recv raw) { s with cfg := cfg } = .next { t with cfg := cfg }

/-! ## Headlines -/

/-- Rule R180: feeding a receiver the frames that SEND made of a packet delivers the packet, once, at the last. -/
def Obligations.SentPacketIsDeliveredOnce : Prop :=
  ∀ (a b : State) (P : Bytes) (d : Byte), P.length ≤ 255 → a.cfg.poly = b.cfg.poly →
    P.length ≤ b.cfg.reasmMax → b.error = false → d = b.cfg.localAddr ∨ d = 0xFF →
    ∃ (a' : State) (fs : List Bytes), exec (.send P d) a = .next a' ∧
      a'.events = a.events ++ fs.map Event.tx ∧ fs ≠ [] ∧
      (∀ k, k < fs.length → ∃ t disp, Claims.recvAll (fs.take (k + 1)) b = .next t ∧
        t.result = .recv true disp ∧ (k + 1 < fs.length → t.events = b.events)) ∧
      ∃ b', Claims.recvAll fs b = .next b' ∧
        b'.events = b.events ++ [.deliver P a.cfg.localAddr] ∧ b'.error = false ∧
        (2 ≤ fs.length → b'.reasm = []) ∧ (fs.length = 1 → b'.reasm = b.reasm)

/-- Rule R205, the error quarantine law: after a corrupted fragment that is not its packet's last, every fragment is
dropped up to and including the next LAST, which clears `error`; nothing is delivered and `reasm` is kept; and then a
packet that SEND made is delivered. -/
def Obligations.CorruptedFragmentQuarantinesItsPacket : Prop :=
  ∀ (s : State) (bad last : Bytes) (mids : List Bytes) (f l : Frame), s.error = false →
    (∀ r ∈ bad :: last :: mids, r.length ≤ 255) →
    Claims.parse bad = some f → Claims.Passes s.cfg f → Claims.NotLast f → ¬ Claims.CrcGood s.cfg.poly f →
    (∀ r ∈ mids, ∃ g, Claims.parse r = some g ∧ Claims.Passes s.cfg g ∧ Claims.NotLast g) →
    Claims.parse last = some l → Claims.Passes s.cfg l → Claims.IsLast l →
    (∃ t, exec (.recv bad) s = .next t ∧ t.result = .recv true .dropCrc ∧ t.error = true) ∧
    (∀ k, k < mids.length → ∃ t, Claims.recvAll (bad :: mids.take (k + 1)) s = .next t ∧
      t.result = .recv true .dropQuarantine ∧ t.error = true) ∧
    ∃ u, Claims.recvAll (bad :: mids ++ [last]) s = .next u ∧
      u.result = .recv true .dropQuarantine ∧ u.error = false ∧ u.reasm = s.reasm ∧
      u.events = s.events ∧
      ∀ (a : State) (P : Bytes), P.length ≤ 255 → P.length ≤ s.cfg.reasmMax → a.cfg.poly = s.cfg.poly →
        ∃ v, Claims.recvAll (Claims.wireFrames a.cfg P s.cfg.localAddr) u = .next v ∧
          v.events = s.events ++ [.deliver P a.cfg.localAddr]

/-! ## The status channel -/

/-- Rules R36, R81, R220: after every RECV the result word is the 3-bit code of the disposition that its transition
function gives, followed by the status bit of that disposition; the code decodes to the disposition's row. That the word
is read off a field that holds the last result is the model's (notes/assumptions/8.md). -/
def Obligations.RecvResultWord : Prop :=
  ∀ (s : State) (raw : Bytes), raw.length ≤ 255 →
    let d := (Claims.recv s.cfg s.error s.reasm raw).disp
    ∃ (t : State) (w : BitVec 4), exec (.recv raw) s = .next t ∧ t.result.recvWord = some w ∧
      (w.extractLsb' 1 3).toNat = Claims.dispCode d ∧ (w.extractLsb' 0 1).toNat = Claims.dispStatus d ∧
      decode (.disp (w.extractLsb' 1 3)) = .ok (dispositionInstr d)
end

