-- ==== Sys2Proof/Laws/State.lean ====
section
/-! SUPPORT. What each update of the state makes of each field, so that no proof unfolds a record update. -/

namespace Sys2Proof.Machine

/-! ### `emit` -/

@[simp] theorem emit_cfg (e : Event) (s : State) : (emit e s).cfg = s.cfg := rfl
@[simp] theorem emit_error (e : Event) (s : State) : (emit e s).error = s.error := rfl
@[simp] theorem emit_reasm (e : Event) (s : State) : (emit e s).reasm = s.reasm := rfl
@[simp] theorem emit_frame (e : Event) (s : State) : (emit e s).frame = s.frame := rfl
@[simp] theorem emit_crc (e : Event) (s : State) : (emit e s).crc = s.crc := rfl
@[simp] theorem emit_crcOk (e : Event) (s : State) : (emit e s).crcOk = s.crcOk := rfl
@[simp] theorem emit_msg (e : Event) (s : State) : (emit e s).msg = s.msg := rfl
@[simp] theorem emit_stuffed (e : Event) (s : State) : (emit e s).stuffed = s.stuffed := rfl
@[simp] theorem emit_pkt (e : Event) (s : State) : (emit e s).pkt = s.pkt := rfl
@[simp] theorem emit_dst (e : Event) (s : State) : (emit e s).dst = s.dst := rfl
@[simp] theorem emit_raw (e : Event) (s : State) : (emit e s).raw = s.raw := rfl
@[simp] theorem emit_numFrames (e : Event) (s : State) : (emit e s).numFrames = s.numFrames := rfl
@[simp] theorem emit_fragIndex (e : Event) (s : State) : (emit e s).fragIndex = s.fragIndex := rfl
@[simp] theorem emit_scanIndex (e : Event) (s : State) : (emit e s).scanIndex = s.scanIndex := rfl
@[simp] theorem emit_inbox (e : Event) (s : State) : (emit e s).inbox = s.inbox := rfl
@[simp] theorem emit_events (e : Event) (s : State) : (emit e s).events = s.events ++ [e] := rfl
@[simp] theorem emit_result (e : Event) (s : State) : (emit e s).result = s.result := rfl

/-! ### `loadSend` -/

@[simp] theorem loadSend_cfg (p : Bytes) (d : Byte) (s : State) : (loadSend p d s).cfg = s.cfg := rfl
@[simp] theorem loadSend_error (p : Bytes) (d : Byte) (s : State) : (loadSend p d s).error = s.error := rfl
@[simp] theorem loadSend_reasm (p : Bytes) (d : Byte) (s : State) : (loadSend p d s).reasm = s.reasm := rfl
@[simp] theorem loadSend_frame (p : Bytes) (d : Byte) (s : State) : (loadSend p d s).frame = s.frame := rfl
@[simp] theorem loadSend_crc (p : Bytes) (d : Byte) (s : State) : (loadSend p d s).crc = s.crc := rfl
@[simp] theorem loadSend_crcOk (p : Bytes) (d : Byte) (s : State) : (loadSend p d s).crcOk = s.crcOk := rfl
@[simp] theorem loadSend_msg (p : Bytes) (d : Byte) (s : State) : (loadSend p d s).msg = s.msg := rfl
@[simp] theorem loadSend_stuffed (p : Bytes) (d : Byte) (s : State) :
    (loadSend p d s).stuffed =
      s.stuffed := rfl
@[simp] theorem loadSend_pkt (p : Bytes) (d : Byte) (s : State) : (loadSend p d s).pkt = p := rfl
@[simp] theorem loadSend_dst (p : Bytes) (d : Byte) (s : State) : (loadSend p d s).dst = d := rfl
@[simp] theorem loadSend_raw (p : Bytes) (d : Byte) (s : State) : (loadSend p d s).raw = s.raw := rfl
@[simp] theorem loadSend_numFrames (p : Bytes) (d : Byte) (s : State) :
    (loadSend p d s).numFrames =
      s.numFrames := rfl
@[simp] theorem loadSend_fragIndex (p : Bytes) (d : Byte) (s : State) :
    (loadSend p d s).fragIndex =
      s.fragIndex := rfl
@[simp] theorem loadSend_scanIndex (p : Bytes) (d : Byte) (s : State) :
    (loadSend p d s).scanIndex =
      s.scanIndex := rfl
@[simp] theorem loadSend_inbox (p : Bytes) (d : Byte) (s : State) : (loadSend p d s).inbox = s.inbox := rfl
@[simp] theorem loadSend_events (p : Bytes) (d : Byte) (s : State) : (loadSend p d s).events = s.events := rfl
@[simp] theorem loadSend_result (p : Bytes) (d : Byte) (s : State) : (loadSend p d s).result = s.result := rfl

/-! ### `loadRecv` -/

@[simp] theorem loadRecv_cfg (r : Bytes) (s : State) : (loadRecv r s).cfg = s.cfg := rfl
@[simp] theorem loadRecv_error (r : Bytes) (s : State) : (loadRecv r s).error = s.error := rfl
@[simp] theorem loadRecv_reasm (r : Bytes) (s : State) : (loadRecv r s).reasm = s.reasm := rfl
@[simp] theorem loadRecv_frame (r : Bytes) (s : State) : (loadRecv r s).frame = s.frame := rfl
@[simp] theorem loadRecv_crc (r : Bytes) (s : State) : (loadRecv r s).crc = s.crc := rfl
@[simp] theorem loadRecv_crcOk (r : Bytes) (s : State) : (loadRecv r s).crcOk = s.crcOk := rfl
@[simp] theorem loadRecv_msg (r : Bytes) (s : State) : (loadRecv r s).msg = s.msg := rfl
@[simp] theorem loadRecv_stuffed (r : Bytes) (s : State) : (loadRecv r s).stuffed = s.stuffed := rfl
@[simp] theorem loadRecv_pkt (r : Bytes) (s : State) : (loadRecv r s).pkt = s.pkt := rfl
@[simp] theorem loadRecv_dst (r : Bytes) (s : State) : (loadRecv r s).dst = s.dst := rfl
@[simp] theorem loadRecv_raw (r : Bytes) (s : State) : (loadRecv r s).raw = r := rfl
@[simp] theorem loadRecv_numFrames (r : Bytes) (s : State) : (loadRecv r s).numFrames = s.numFrames := rfl
@[simp] theorem loadRecv_fragIndex (r : Bytes) (s : State) : (loadRecv r s).fragIndex = s.fragIndex := rfl
@[simp] theorem loadRecv_scanIndex (r : Bytes) (s : State) : (loadRecv r s).scanIndex = s.scanIndex := rfl
@[simp] theorem loadRecv_inbox (r : Bytes) (s : State) : (loadRecv r s).inbox = s.inbox := rfl
@[simp] theorem loadRecv_events (r : Bytes) (s : State) : (loadRecv r s).events = s.events := rfl
@[simp] theorem loadRecv_result (r : Bytes) (s : State) : (loadRecv r s).result = s.result := rfl

/-! ### `setControl` -/

@[simp] theorem setControl_cfg (a b : Byte) (s : State) : (setControl a b s).cfg = s.cfg := rfl
@[simp] theorem setControl_error (a b : Byte) (s : State) : (setControl a b s).error = s.error := rfl
@[simp] theorem setControl_reasm (a b : Byte) (s : State) : (setControl a b s).reasm = s.reasm := rfl
@[simp] theorem setControl_frame (a b : Byte) (s : State) :
    (setControl a b s).frame =
      { s.frame with control0 := a, control1 := b } := rfl
@[simp] theorem setControl_crc (a b : Byte) (s : State) : (setControl a b s).crc = s.crc := rfl
@[simp] theorem setControl_crcOk (a b : Byte) (s : State) : (setControl a b s).crcOk = s.crcOk := rfl
@[simp] theorem setControl_msg (a b : Byte) (s : State) : (setControl a b s).msg = s.msg := rfl
@[simp] theorem setControl_stuffed (a b : Byte) (s : State) : (setControl a b s).stuffed = s.stuffed := rfl
@[simp] theorem setControl_pkt (a b : Byte) (s : State) : (setControl a b s).pkt = s.pkt := rfl
@[simp] theorem setControl_dst (a b : Byte) (s : State) : (setControl a b s).dst = s.dst := rfl
@[simp] theorem setControl_raw (a b : Byte) (s : State) : (setControl a b s).raw = s.raw := rfl
@[simp] theorem setControl_numFrames (a b : Byte) (s : State) :
    (setControl a b s).numFrames =
      s.numFrames := rfl
@[simp] theorem setControl_fragIndex (a b : Byte) (s : State) :
    (setControl a b s).fragIndex =
      s.fragIndex := rfl
@[simp] theorem setControl_scanIndex (a b : Byte) (s : State) :
    (setControl a b s).scanIndex =
      s.scanIndex := rfl
@[simp] theorem setControl_inbox (a b : Byte) (s : State) : (setControl a b s).inbox = s.inbox := rfl
@[simp] theorem setControl_events (a b : Byte) (s : State) : (setControl a b s).events = s.events := rfl
@[simp] theorem setControl_result (a b : Byte) (s : State) : (setControl a b s).result = s.result := rfl

/-! ### `releaseFrame` -/

@[simp] theorem releaseFrame_cfg (s : State) : (releaseFrame s).cfg = s.cfg := rfl
@[simp] theorem releaseFrame_error (s : State) : (releaseFrame s).error = s.error := rfl
@[simp] theorem releaseFrame_reasm (s : State) : (releaseFrame s).reasm = s.reasm := rfl
@[simp] theorem releaseFrame_frame (s : State) :
    (releaseFrame s).frame =
      { s.frame with length := 0, netPacket := [] } := rfl
@[simp] theorem releaseFrame_crc (s : State) : (releaseFrame s).crc = s.crc := rfl
@[simp] theorem releaseFrame_crcOk (s : State) : (releaseFrame s).crcOk = s.crcOk := rfl
@[simp] theorem releaseFrame_msg (s : State) : (releaseFrame s).msg = [] := rfl
@[simp] theorem releaseFrame_stuffed (s : State) : (releaseFrame s).stuffed = [] := rfl
@[simp] theorem releaseFrame_pkt (s : State) : (releaseFrame s).pkt = s.pkt := rfl
@[simp] theorem releaseFrame_dst (s : State) : (releaseFrame s).dst = s.dst := rfl
@[simp] theorem releaseFrame_raw (s : State) : (releaseFrame s).raw = s.raw := rfl
@[simp] theorem releaseFrame_numFrames (s : State) : (releaseFrame s).numFrames = s.numFrames := rfl
@[simp] theorem releaseFrame_fragIndex (s : State) : (releaseFrame s).fragIndex = s.fragIndex := rfl
@[simp] theorem releaseFrame_scanIndex (s : State) : (releaseFrame s).scanIndex = s.scanIndex := rfl
@[simp] theorem releaseFrame_inbox (s : State) : (releaseFrame s).inbox = s.inbox := rfl
@[simp] theorem releaseFrame_events (s : State) : (releaseFrame s).events = s.events := rfl
@[simp] theorem releaseFrame_result (s : State) : (releaseFrame s).result = s.result := rfl

/-! ### `release` -/

@[simp] theorem release_cfg (s : State) : (release s).cfg = s.cfg := rfl
@[simp] theorem release_error (s : State) : (release s).error = s.error := rfl
@[simp] theorem release_reasm (s : State) : (release s).reasm = s.reasm := rfl
@[simp] theorem release_frame (s : State) :
    (release s).frame =
      { s.frame with length := 0, netPacket := [] } := rfl
@[simp] theorem release_crc (s : State) : (release s).crc = s.crc := rfl
@[simp] theorem release_crcOk (s : State) : (release s).crcOk = s.crcOk := rfl
@[simp] theorem release_msg (s : State) : (release s).msg = [] := rfl
@[simp] theorem release_stuffed (s : State) : (release s).stuffed = [] := rfl
@[simp] theorem release_pkt (s : State) : (release s).pkt = [] := rfl
@[simp] theorem release_dst (s : State) : (release s).dst = s.dst := rfl
@[simp] theorem release_raw (s : State) : (release s).raw = [] := rfl
@[simp] theorem release_numFrames (s : State) : (release s).numFrames = 0 := rfl
@[simp] theorem release_fragIndex (s : State) : (release s).fragIndex = 0 := rfl
@[simp] theorem release_scanIndex (s : State) : (release s).scanIndex = 0 := rfl
@[simp] theorem release_inbox (s : State) : (release s).inbox = s.inbox := rfl
@[simp] theorem release_events (s : State) : (release s).events = s.events := rfl
@[simp] theorem release_result (s : State) : (release s).result = s.result := rfl

/-! ### `returnsNothing` -/

@[simp] theorem returnsNothing_cfg (s : State) : (returnsNothing s).cfg = s.cfg := rfl
@[simp] theorem returnsNothing_error (s : State) : (returnsNothing s).error = s.error := rfl
@[simp] theorem returnsNothing_reasm (s : State) : (returnsNothing s).reasm = s.reasm := rfl
@[simp] theorem returnsNothing_frame (s : State) : (returnsNothing s).frame = s.frame := rfl
@[simp] theorem returnsNothing_crc (s : State) : (returnsNothing s).crc = s.crc := rfl
@[simp] theorem returnsNothing_crcOk (s : State) : (returnsNothing s).crcOk = s.crcOk := rfl
@[simp] theorem returnsNothing_msg (s : State) : (returnsNothing s).msg = s.msg := rfl
@[simp] theorem returnsNothing_stuffed (s : State) : (returnsNothing s).stuffed = s.stuffed := rfl
@[simp] theorem returnsNothing_pkt (s : State) : (returnsNothing s).pkt = s.pkt := rfl
@[simp] theorem returnsNothing_dst (s : State) : (returnsNothing s).dst = s.dst := rfl
@[simp] theorem returnsNothing_raw (s : State) : (returnsNothing s).raw = s.raw := rfl
@[simp] theorem returnsNothing_numFrames (s : State) : (returnsNothing s).numFrames = s.numFrames := rfl
@[simp] theorem returnsNothing_fragIndex (s : State) : (returnsNothing s).fragIndex = s.fragIndex := rfl
@[simp] theorem returnsNothing_scanIndex (s : State) : (returnsNothing s).scanIndex = s.scanIndex := rfl
@[simp] theorem returnsNothing_inbox (s : State) : (returnsNothing s).inbox = s.inbox := rfl
@[simp] theorem returnsNothing_events (s : State) : (returnsNothing s).events = s.events := rfl
@[simp] theorem returnsNothing_result (s : State) : (returnsNothing s).result = .nothing := rfl

/-! ### `endRecv` -/

@[simp] theorem endRecv_cfg (d : Disposition) (s : State) : (endRecv d s).cfg = s.cfg := rfl
@[simp] theorem endRecv_error (d : Disposition) (s : State) : (endRecv d s).error = s.error := rfl
@[simp] theorem endRecv_reasm (d : Disposition) (s : State) : (endRecv d s).reasm = s.reasm := rfl
@[simp] theorem endRecv_frame (d : Disposition) (s : State) :
    (endRecv d s).frame =
      { s.frame with length := 0, netPacket := [] } := rfl
@[simp] theorem endRecv_crc (d : Disposition) (s : State) : (endRecv d s).crc = s.crc := rfl
@[simp] theorem endRecv_crcOk (d : Disposition) (s : State) : (endRecv d s).crcOk = s.crcOk := rfl
@[simp] theorem endRecv_msg (d : Disposition) (s : State) : (endRecv d s).msg = [] := rfl
@[simp] theorem endRecv_stuffed (d : Disposition) (s : State) : (endRecv d s).stuffed = [] := rfl
@[simp] theorem endRecv_pkt (d : Disposition) (s : State) : (endRecv d s).pkt = [] := rfl
@[simp] theorem endRecv_dst (d : Disposition) (s : State) : (endRecv d s).dst = s.dst := rfl
@[simp] theorem endRecv_raw (d : Disposition) (s : State) : (endRecv d s).raw = [] := rfl
@[simp] theorem endRecv_numFrames (d : Disposition) (s : State) : (endRecv d s).numFrames = 0 := rfl
@[simp] theorem endRecv_fragIndex (d : Disposition) (s : State) : (endRecv d s).fragIndex = 0 := rfl
@[simp] theorem endRecv_scanIndex (d : Disposition) (s : State) : (endRecv d s).scanIndex = 0 := rfl
@[simp] theorem endRecv_inbox (d : Disposition) (s : State) : (endRecv d s).inbox = s.inbox := rfl
@[simp] theorem endRecv_events (d : Disposition) (s : State) : (endRecv d s).events = s.events := rfl
@[simp] theorem endRecv_result (d : Disposition) (s : State) :
    (endRecv d s).result =
      .recv (statusOf d) d := rfl

/-! ### `computeCrc` -/

@[simp] theorem computeCrc_cfg (bs : Bytes) (s : State) : (computeCrc bs s).cfg = s.cfg := rfl
@[simp] theorem computeCrc_error (bs : Bytes) (s : State) : (computeCrc bs s).error = s.error := rfl
@[simp] theorem computeCrc_reasm (bs : Bytes) (s : State) : (computeCrc bs s).reasm = s.reasm := rfl
@[simp] theorem computeCrc_frame (bs : Bytes) (s : State) : (computeCrc bs s).frame = s.frame := rfl
@[simp] theorem computeCrc_crc (bs : Bytes) (s : State) : (computeCrc bs s).crc = crc16 s.cfg.poly bs := rfl
@[simp] theorem computeCrc_crcOk (bs : Bytes) (s : State) : (computeCrc bs s).crcOk = s.crcOk := rfl
@[simp] theorem computeCrc_msg (bs : Bytes) (s : State) : (computeCrc bs s).msg = s.msg := rfl
@[simp] theorem computeCrc_stuffed (bs : Bytes) (s : State) : (computeCrc bs s).stuffed = s.stuffed := rfl
@[simp] theorem computeCrc_pkt (bs : Bytes) (s : State) : (computeCrc bs s).pkt = s.pkt := rfl
@[simp] theorem computeCrc_dst (bs : Bytes) (s : State) : (computeCrc bs s).dst = s.dst := rfl
@[simp] theorem computeCrc_raw (bs : Bytes) (s : State) : (computeCrc bs s).raw = s.raw := rfl
@[simp] theorem computeCrc_numFrames (bs : Bytes) (s : State) :
    (computeCrc bs s).numFrames =
      s.numFrames := rfl
@[simp] theorem computeCrc_fragIndex (bs : Bytes) (s : State) :
    (computeCrc bs s).fragIndex =
      s.fragIndex := rfl
@[simp] theorem computeCrc_scanIndex (bs : Bytes) (s : State) :
    (computeCrc bs s).scanIndex =
      s.scanIndex := rfl
@[simp] theorem computeCrc_inbox (bs : Bytes) (s : State) : (computeCrc bs s).inbox = s.inbox := rfl
@[simp] theorem computeCrc_events (bs : Bytes) (s : State) : (computeCrc bs s).events = s.events := rfl
@[simp] theorem computeCrc_result (bs : Bytes) (s : State) : (computeCrc bs s).result = s.result := rfl

/-! ### `crcGenOp` -/

@[simp] theorem crcGenOp_cfg (s : State) : (crcGenOp s).cfg = s.cfg := rfl
@[simp] theorem crcGenOp_error (s : State) : (crcGenOp s).error = s.error := rfl
@[simp] theorem crcGenOp_reasm (s : State) : (crcGenOp s).reasm = s.reasm := rfl
@[simp] theorem crcGenOp_frame (s : State) :
    (crcGenOp s).frame =
      { s.frame with
        checksum0 := hiByte (crc16 s.cfg.poly (protectedBytes s.frame))
        checksum1 := loByte (crc16 s.cfg.poly (protectedBytes s.frame)) } := rfl
@[simp] theorem crcGenOp_crc (s : State) : (crcGenOp s).crc = crc16 s.cfg.poly (protectedBytes s.frame) := rfl
@[simp] theorem crcGenOp_crcOk (s : State) : (crcGenOp s).crcOk = s.crcOk := rfl
@[simp] theorem crcGenOp_msg (s : State) : (crcGenOp s).msg = s.msg := rfl
@[simp] theorem crcGenOp_stuffed (s : State) : (crcGenOp s).stuffed = s.stuffed := rfl
@[simp] theorem crcGenOp_pkt (s : State) : (crcGenOp s).pkt = s.pkt := rfl
@[simp] theorem crcGenOp_dst (s : State) : (crcGenOp s).dst = s.dst := rfl
@[simp] theorem crcGenOp_raw (s : State) : (crcGenOp s).raw = s.raw := rfl
@[simp] theorem crcGenOp_numFrames (s : State) : (crcGenOp s).numFrames = s.numFrames := rfl
@[simp] theorem crcGenOp_fragIndex (s : State) : (crcGenOp s).fragIndex = s.fragIndex := rfl
@[simp] theorem crcGenOp_scanIndex (s : State) : (crcGenOp s).scanIndex = s.scanIndex := rfl
@[simp] theorem crcGenOp_inbox (s : State) : (crcGenOp s).inbox = s.inbox := rfl
@[simp] theorem crcGenOp_events (s : State) : (crcGenOp s).events = s.events := rfl
@[simp] theorem crcGenOp_result (s : State) : (crcGenOp s).result = s.result := rfl

/-! ### `crcChkOp` -/

@[simp] theorem crcChkOp_cfg (s : State) : (crcChkOp s).cfg = s.cfg := rfl
@[simp] theorem crcChkOp_error (s : State) : (crcChkOp s).error = s.error := rfl
@[simp] theorem crcChkOp_reasm (s : State) : (crcChkOp s).reasm = s.reasm := rfl
@[simp] theorem crcChkOp_frame (s : State) : (crcChkOp s).frame = s.frame := rfl
@[simp] theorem crcChkOp_crc (s : State) : (crcChkOp s).crc = crc16 s.cfg.poly (protectedBytes s.frame) := rfl
@[simp] theorem crcChkOp_crcOk (s : State) :
    (crcChkOp s).crcOk =
      (decide (hiByte (crc16 s.cfg.poly (protectedBytes s.frame)) = s.frame.checksum0) &&
        decide (loByte (crc16 s.cfg.poly (protectedBytes s.frame)) = s.frame.checksum1)) := rfl
@[simp] theorem crcChkOp_msg (s : State) : (crcChkOp s).msg = s.msg := rfl
@[simp] theorem crcChkOp_stuffed (s : State) : (crcChkOp s).stuffed = s.stuffed := rfl
@[simp] theorem crcChkOp_pkt (s : State) : (crcChkOp s).pkt = s.pkt := rfl
@[simp] theorem crcChkOp_dst (s : State) : (crcChkOp s).dst = s.dst := rfl
@[simp] theorem crcChkOp_raw (s : State) : (crcChkOp s).raw = s.raw := rfl
@[simp] theorem crcChkOp_numFrames (s : State) : (crcChkOp s).numFrames = s.numFrames := rfl
@[simp] theorem crcChkOp_fragIndex (s : State) : (crcChkOp s).fragIndex = s.fragIndex := rfl
@[simp] theorem crcChkOp_scanIndex (s : State) : (crcChkOp s).scanIndex = s.scanIndex := rfl
@[simp] theorem crcChkOp_inbox (s : State) : (crcChkOp s).inbox = s.inbox := rfl
@[simp] theorem crcChkOp_events (s : State) : (crcChkOp s).events = s.events := rfl
@[simp] theorem crcChkOp_result (s : State) : (crcChkOp s).result = s.result := rfl

/-! ### `packOp` -/

@[simp] theorem packOp_cfg (s : State) : (packOp s).cfg = s.cfg := rfl
@[simp] theorem packOp_error (s : State) : (packOp s).error = s.error := rfl
@[simp] theorem packOp_reasm (s : State) : (packOp s).reasm = s.reasm := rfl
@[simp] theorem packOp_frame (s : State) : (packOp s).frame = s.frame := rfl
@[simp] theorem packOp_crc (s : State) : (packOp s).crc = s.crc := rfl
@[simp] theorem packOp_crcOk (s : State) : (packOp s).crcOk = s.crcOk := rfl
@[simp] theorem packOp_msg (s : State) : (packOp s).msg = packMessage s.frame := rfl
@[simp] theorem packOp_stuffed (s : State) : (packOp s).stuffed = s.stuffed := rfl
@[simp] theorem packOp_pkt (s : State) : (packOp s).pkt = s.pkt := rfl
@[simp] theorem packOp_dst (s : State) : (packOp s).dst = s.dst := rfl
@[simp] theorem packOp_raw (s : State) : (packOp s).raw = s.raw := rfl
@[simp] theorem packOp_numFrames (s : State) : (packOp s).numFrames = s.numFrames := rfl
@[simp] theorem packOp_fragIndex (s : State) : (packOp s).fragIndex = s.fragIndex := rfl
@[simp] theorem packOp_scanIndex (s : State) : (packOp s).scanIndex = s.scanIndex := rfl
@[simp] theorem packOp_inbox (s : State) : (packOp s).inbox = s.inbox := rfl
@[simp] theorem packOp_events (s : State) : (packOp s).events = s.events := rfl
@[simp] theorem packOp_result (s : State) : (packOp s).result = s.result := rfl

/-! ### `stuffOp` -/

@[simp] theorem stuffOp_cfg (s : State) : (stuffOp s).cfg = s.cfg := rfl
@[simp] theorem stuffOp_error (s : State) : (stuffOp s).error = s.error := rfl
@[simp] theorem stuffOp_reasm (s : State) : (stuffOp s).reasm = s.reasm := rfl
@[simp] theorem stuffOp_frame (s : State) : (stuffOp s).frame = s.frame := rfl
@[simp] theorem stuffOp_crc (s : State) : (stuffOp s).crc = s.crc := rfl
@[simp] theorem stuffOp_crcOk (s : State) : (stuffOp s).crcOk = s.crcOk := rfl
@[simp] theorem stuffOp_msg (s : State) : (stuffOp s).msg = s.msg := rfl
@[simp] theorem stuffOp_stuffed (s : State) : (stuffOp s).stuffed = stuffBytes s.msg := rfl
@[simp] theorem stuffOp_pkt (s : State) : (stuffOp s).pkt = s.pkt := rfl
@[simp] theorem stuffOp_dst (s : State) : (stuffOp s).dst = s.dst := rfl
@[simp] theorem stuffOp_raw (s : State) : (stuffOp s).raw = s.raw := rfl
@[simp] theorem stuffOp_numFrames (s : State) : (stuffOp s).numFrames = s.numFrames := rfl
@[simp] theorem stuffOp_fragIndex (s : State) : (stuffOp s).fragIndex = s.fragIndex := rfl
@[simp] theorem stuffOp_scanIndex (s : State) : (stuffOp s).scanIndex = s.msg.length := rfl
@[simp] theorem stuffOp_inbox (s : State) : (stuffOp s).inbox = s.inbox := rfl
@[simp] theorem stuffOp_events (s : State) : (stuffOp s).events = s.events := rfl
@[simp] theorem stuffOp_result (s : State) : (stuffOp s).result = s.result := rfl

/-! ### `takeMessage` -/

@[simp] theorem takeMessage_cfg (m : Bytes) (s : State) : (takeMessage m s).cfg = s.cfg := rfl
@[simp] theorem takeMessage_error (m : Bytes) (s : State) : (takeMessage m s).error = s.error := rfl
@[simp] theorem takeMessage_reasm (m : Bytes) (s : State) : (takeMessage m s).reasm = s.reasm := rfl
@[simp] theorem takeMessage_frame (m : Bytes) (s : State) : (takeMessage m s).frame = s.frame := rfl
@[simp] theorem takeMessage_crc (m : Bytes) (s : State) : (takeMessage m s).crc = s.crc := rfl
@[simp] theorem takeMessage_crcOk (m : Bytes) (s : State) : (takeMessage m s).crcOk = s.crcOk := rfl
@[simp] theorem takeMessage_msg (m : Bytes) (s : State) : (takeMessage m s).msg = m := rfl
@[simp] theorem takeMessage_stuffed (m : Bytes) (s : State) : (takeMessage m s).stuffed = s.stuffed := rfl
@[simp] theorem takeMessage_pkt (m : Bytes) (s : State) : (takeMessage m s).pkt = s.pkt := rfl
@[simp] theorem takeMessage_dst (m : Bytes) (s : State) : (takeMessage m s).dst = s.dst := rfl
@[simp] theorem takeMessage_raw (m : Bytes) (s : State) : (takeMessage m s).raw = s.raw := rfl
@[simp] theorem takeMessage_numFrames (m : Bytes) (s : State) : (takeMessage m s).numFrames = s.numFrames := rfl
@[simp] theorem takeMessage_fragIndex (m : Bytes) (s : State) : (takeMessage m s).fragIndex = s.fragIndex := rfl
@[simp] theorem takeMessage_scanIndex (m : Bytes) (s : State) : (takeMessage m s).scanIndex = (bodyOf s.raw).length := rfl
@[simp] theorem takeMessage_inbox (m : Bytes) (s : State) : (takeMessage m s).inbox = s.inbox := rfl
@[simp] theorem takeMessage_events (m : Bytes) (s : State) : (takeMessage m s).events = s.events := rfl
@[simp] theorem takeMessage_result (m : Bytes) (s : State) : (takeMessage m s).result = s.result := rfl

/-! ### `takeFrame` -/

@[simp] theorem takeFrame_cfg (f : Frame) (s : State) : (takeFrame f s).cfg = s.cfg := rfl
@[simp] theorem takeFrame_error (f : Frame) (s : State) : (takeFrame f s).error = s.error := rfl
@[simp] theorem takeFrame_reasm (f : Frame) (s : State) : (takeFrame f s).reasm = s.reasm := rfl
@[simp] theorem takeFrame_frame (f : Frame) (s : State) : (takeFrame f s).frame = f := rfl
@[simp] theorem takeFrame_crc (f : Frame) (s : State) : (takeFrame f s).crc = s.crc := rfl
@[simp] theorem takeFrame_crcOk (f : Frame) (s : State) : (takeFrame f s).crcOk = s.crcOk := rfl
@[simp] theorem takeFrame_msg (f : Frame) (s : State) : (takeFrame f s).msg = s.msg := rfl
@[simp] theorem takeFrame_stuffed (f : Frame) (s : State) : (takeFrame f s).stuffed = s.stuffed := rfl
@[simp] theorem takeFrame_pkt (f : Frame) (s : State) : (takeFrame f s).pkt = s.pkt := rfl
@[simp] theorem takeFrame_dst (f : Frame) (s : State) : (takeFrame f s).dst = s.dst := rfl
@[simp] theorem takeFrame_raw (f : Frame) (s : State) : (takeFrame f s).raw = s.raw := rfl
@[simp] theorem takeFrame_numFrames (f : Frame) (s : State) : (takeFrame f s).numFrames = s.numFrames := rfl
@[simp] theorem takeFrame_fragIndex (f : Frame) (s : State) : (takeFrame f s).fragIndex = s.fragIndex := rfl
@[simp] theorem takeFrame_scanIndex (f : Frame) (s : State) : (takeFrame f s).scanIndex = s.scanIndex := rfl
@[simp] theorem takeFrame_inbox (f : Frame) (s : State) : (takeFrame f s).inbox = s.inbox := rfl
@[simp] theorem takeFrame_events (f : Frame) (s : State) : (takeFrame f s).events = s.events := rfl
@[simp] theorem takeFrame_result (f : Frame) (s : State) : (takeFrame f s).result = s.result := rfl

/-! ### `yieldByte` -/

@[simp] theorem yieldByte_cfg (b : Byte) (k : Nat) (s : State) : (yieldByte b k s).cfg = s.cfg := rfl
@[simp] theorem yieldByte_error (b : Byte) (k : Nat) (s : State) : (yieldByte b k s).error = s.error := rfl
@[simp] theorem yieldByte_reasm (b : Byte) (k : Nat) (s : State) : (yieldByte b k s).reasm = s.reasm := rfl
@[simp] theorem yieldByte_frame (b : Byte) (k : Nat) (s : State) : (yieldByte b k s).frame = s.frame := rfl
@[simp] theorem yieldByte_crc (b : Byte) (k : Nat) (s : State) : (yieldByte b k s).crc = s.crc := rfl
@[simp] theorem yieldByte_crcOk (b : Byte) (k : Nat) (s : State) : (yieldByte b k s).crcOk = s.crcOk := rfl
@[simp] theorem yieldByte_msg (b : Byte) (k : Nat) (s : State) : (yieldByte b k s).msg = s.msg ++ [b] := rfl
@[simp] theorem yieldByte_stuffed (b : Byte) (k : Nat) (s : State) :
    (yieldByte b k s).stuffed =
      s.stuffed := rfl
@[simp] theorem yieldByte_pkt (b : Byte) (k : Nat) (s : State) : (yieldByte b k s).pkt = s.pkt := rfl
@[simp] theorem yieldByte_dst (b : Byte) (k : Nat) (s : State) : (yieldByte b k s).dst = s.dst := rfl
@[simp] theorem yieldByte_raw (b : Byte) (k : Nat) (s : State) : (yieldByte b k s).raw = s.raw := rfl
@[simp] theorem yieldByte_numFrames (b : Byte) (k : Nat) (s : State) :
    (yieldByte b k s).numFrames =
      s.numFrames := rfl
@[simp] theorem yieldByte_fragIndex (b : Byte) (k : Nat) (s : State) :
    (yieldByte b k s).fragIndex =
      s.fragIndex := rfl
@[simp] theorem yieldByte_scanIndex (b : Byte) (k : Nat) (s : State) :
    (yieldByte b k s).scanIndex =
      s.scanIndex + k := rfl
@[simp] theorem yieldByte_inbox (b : Byte) (k : Nat) (s : State) : (yieldByte b k s).inbox = s.inbox := rfl
@[simp] theorem yieldByte_events (b : Byte) (k : Nat) (s : State) : (yieldByte b k s).events = s.events := rfl
@[simp] theorem yieldByte_result (b : Byte) (k : Nat) (s : State) : (yieldByte b k s).result = s.result := rfl

/-! ### `fragOp` -/

@[simp] theorem fragOp_cfg (s : State) : (fragOp s).cfg = s.cfg := rfl
@[simp] theorem fragOp_error (s : State) : (fragOp s).error = s.error := rfl
@[simp] theorem fragOp_reasm (s : State) : (fragOp s).reasm = s.reasm := rfl
@[simp] theorem fragOp_frame (s : State) :
    (fragOp s).frame =
      fragFrame s.cfg s.pkt s.dst (frameCount s.pkt.length s.cfg.capacity) s.fragIndex s.frame := rfl
@[simp] theorem fragOp_crc (s : State) : (fragOp s).crc = s.crc := rfl
@[simp] theorem fragOp_crcOk (s : State) : (fragOp s).crcOk = s.crcOk := rfl
@[simp] theorem fragOp_msg (s : State) : (fragOp s).msg = s.msg := rfl
@[simp] theorem fragOp_stuffed (s : State) : (fragOp s).stuffed = s.stuffed := rfl
@[simp] theorem fragOp_pkt (s : State) : (fragOp s).pkt = s.pkt := rfl
@[simp] theorem fragOp_dst (s : State) : (fragOp s).dst = s.dst := rfl
@[simp] theorem fragOp_raw (s : State) : (fragOp s).raw = s.raw := rfl
@[simp] theorem fragOp_numFrames (s : State) :
    (fragOp s).numFrames =
      frameCount s.pkt.length s.cfg.capacity := rfl
@[simp] theorem fragOp_fragIndex (s : State) : (fragOp s).fragIndex = s.fragIndex := rfl
@[simp] theorem fragOp_scanIndex (s : State) : (fragOp s).scanIndex = s.scanIndex := rfl
@[simp] theorem fragOp_inbox (s : State) : (fragOp s).inbox = s.inbox := rfl
@[simp] theorem fragOp_events (s : State) : (fragOp s).events = s.events := rfl
@[simp] theorem fragOp_result (s : State) : (fragOp s).result = s.result := rfl

end Sys2Proof.Machine
end

