-- ==== Sys2Proof/Laws/Crc.lean ====
section
/-! SUPPORT. Small laws of the CRC engine (rule R100). -/

namespace Sys2Proof.Machine

@[simp] theorem crc16_nil (poly : Half) : crc16 poly [] = 0 := rfl

theorem crc16_append (poly : Half) (a b : Bytes) :
    crc16 poly (a ++ b) = b.foldl (crcByte poly) (crc16 poly a) := by
  simp [crc16]

theorem crc16_concat (poly : Half) (a : Bytes) (b : Byte) :
    crc16 poly (a ++ [b]) = crcByte poly (crc16 poly a) b := by
  simp [crc16_append]

theorem crcBit_zero (poly : Half) : crcBit poly 0 = 0 := by
  simp [crcBit]

/-- A bit step is linear over GF(2). -/
theorem crcBit_xor (poly a b : Half) : crcBit poly (a ^^^ b) = crcBit poly a ^^^ crcBit poly b := by
  unfold crcBit
  rw [BitVec.msb_xor, BitVec.shiftLeft_xor_distrib]
  cases a.msb <;> cases b.msb
  · simp
  · simp [BitVec.xor_assoc]
  · simp only [Bool.xor_false, if_true, if_false, Bool.false_eq_true]
    rw [BitVec.xor_assoc, BitVec.xor_comm (b <<< 1) poly, ← BitVec.xor_assoc]
  · simp only [Bool.xor_self, if_true, if_false, Bool.false_eq_true]
    rw [BitVec.xor_assoc, ← BitVec.xor_assoc poly, BitVec.xor_comm poly (b <<< 1), BitVec.xor_assoc,
      BitVec.xor_self, BitVec.xor_zero]

theorem repeat_crcBit_xor (poly : Half) (n : Nat) (a b : Half) :
    Nat.repeat (crcBit poly) n (a ^^^ b) = Nat.repeat (crcBit poly) n a ^^^ Nat.repeat (crcBit poly) n b := by
  induction n with
  | zero => rfl
  | succ n ih => simp only [Nat.repeat, ih, crcBit_xor]

theorem crcByte_zero (poly : Half) : crcByte poly 0 0 = 0 := by
  have h : ∀ n, Nat.repeat (crcBit poly) n 0 = 0 := by
    intro n
    induction n with
    | zero => rfl
    | succ n ih => simp only [Nat.repeat, ih, crcBit_zero]
  simpa [crcByte] using h 8

/-- The high and the low byte of a value are the value. -/
theorem hiByte_append_loByte (v : Half) : hiByte v ++ loByte v = v := by
  apply BitVec.eq_of_getLsbD_eq
  intro i hi
  unfold hiByte loByte
  rw [BitVec.getLsbD_append]
  simp only [BitVec.getLsbD_extractLsb']
  by_cases h : i < 8
  · simp [h]
  · have h1 : 8 + (i - 8) = i := by omega
    have h2 : i - 8 < 8 := by omega
    simp [h, h1, h2]

/-- Two bytes put together are taken apart again. -/
theorem hiByte_append (a b : Byte) : hiByte (a ++ b) = a := by
  unfold hiByte
  apply BitVec.eq_of_getLsbD_eq
  intro i hi
  rw [BitVec.getLsbD_extractLsb', BitVec.getLsbD_append]
  simp [hi]

theorem loByte_append (a b : Byte) : loByte (a ++ b) = b := by
  unfold loByte
  apply BitVec.eq_of_getLsbD_eq
  intro i hi
  rw [BitVec.getLsbD_extractLsb', BitVec.getLsbD_append]
  simp [hi]

/-- Comparing byte for byte is comparing the two bytes as one value (rule R106). -/
theorem bytes_eq_iff (v : Half) (a b : Byte) : (hiByte v = a ∧ loByte v = b) ↔ v = a ++ b := by
  constructor
  · rintro ⟨rfl, rfl⟩
    exact (hiByte_append_loByte v).symm
  · rintro rfl
    exact ⟨hiByte_append a b, loByte_append a b⟩

end Sys2Proof.Machine
end

