-- ==== Sys2Proof/Laws/Fragmentation.lean ====
section
/-! SUPPORT. The frame classes, and the arithmetic of the fragmenter (rules R78, R150, R151). -/

namespace Sys2Proof.Machine

/-! ### Classes -/

theorem frameClass_single_iff (c0 c1 : Byte) : frameClass c0 c1 = .single ↔ c1 = 0 := by
  by_cases h1 : c1 = 0 <;> by_cases h2 : c0 = 0 <;> by_cases h3 : c0 = c1 <;> simp_all [frameClass]

theorem frameClass_first_iff (c0 c1 : Byte) : frameClass c0 c1 = .first ↔ c1 ≠ 0 ∧ c0 = 0 := by
  by_cases h1 : c1 = 0 <;> by_cases h2 : c0 = 0 <;> by_cases h3 : c0 = c1 <;> simp_all [frameClass]

theorem frameClass_last_iff (c0 c1 : Byte) : frameClass c0 c1 = .last ↔ c1 ≠ 0 ∧ c0 = c1 := by
  by_cases h1 : c1 = 0 <;> by_cases h2 : c0 = 0 <;> by_cases h3 : c0 = c1 <;> simp_all [frameClass]

theorem frameClass_middle_iff (c0 c1 : Byte) :
    frameClass c0 c1 = .middle ↔ c1 ≠ 0 ∧ c0 ≠ 0 ∧ c0 ≠ c1 := by
  by_cases h1 : c1 = 0 <;> by_cases h2 : c0 = 0 <;> by_cases h3 : c0 = c1 <;> simp_all [frameClass]

/-! ### `num_frames` -/

theorem frameCount_pos (L C : Nat) : 1 ≤ frameCount L C := by
  simp [frameCount]

/-- The frames hold the packet. -/
theorem le_frameCount_mul (L C : Nat) (h : 1 ≤ C) : L ≤ frameCount L C * C := by
  have h1 : (L + C - 1) / C ≤ frameCount L C := by simp [frameCount]
  have h2 := Nat.div_add_mod (L + C - 1) C
  have h3 := Nat.mod_lt (L + C - 1) (show C > 0 by omega)
  have h4 : C * ((L + C - 1) / C) ≤ C * frameCount L C := Nat.mul_le_mul_left C h1
  rw [Nat.mul_comm]
  omega

/-- Every frame but the last is full. -/
theorem frameCount_pred_mul_lt (L C : Nat) (h : 1 ≤ C) (hL : 0 < L) : (frameCount L C - 1) * C < L := by
  have h1 := Nat.div_add_mod (L + C - 1) C
  have h3 : 1 ≤ (L + C - 1) / C := Nat.div_pos (by omega) (by omega)
  have h4 : frameCount L C = (L + C - 1) / C := by simp [frameCount]; omega
  rw [h4, Nat.sub_mul, Nat.mul_comm]
  omega

theorem frameCount_zero (C : Nat) (h : 1 ≤ C) : frameCount 0 C = 1 := by
  have : (0 + C - 1) / C = 0 := Nat.div_eq_of_lt (by omega)
  simp only [frameCount, this]
  rfl

theorem frameCount_le (L C : Nat) (h : 1 ≤ C) (hL : L ≤ 255) : frameCount L C ≤ 255 := by
  rcases Nat.eq_zero_or_pos L with rfl | hp
  · rw [frameCount_zero C h]; omega
  · have h1 := frameCount_pred_mul_lt L C h hp
    have h2 : frameCount L C - 1 ≤ (frameCount L C - 1) * C := Nat.le_mul_of_pos_right _ (by omega)
    omega

/-- FRAG keeps `length` and `net_packet` together (rule R39), at every fragment index. -/
theorem fragFrame_length (cfg : Cfg) (pkt : Bytes) (dst : Byte) (i : Nat) (f : Frame) :
    let n := frameCount pkt.length cfg.capacity
    (fragFrame cfg pkt dst n i f).length.toNat = (fragFrame cfg pkt dst n i f).netPacket.length := by
  obtain ⟨⟨h1, h2⟩, -⟩ := cfg.legal
  intro n
  have hn : 1 ≤ n := frameCount_pos ..
  have hle : pkt.length ≤ n * cfg.capacity := le_frameCount_mul _ _ h1
  have hsplit : n * cfg.capacity = (n - 1) * cfg.capacity + cfg.capacity := by
    conv_lhs => rw [show n = (n - 1) + 1 by omega, Nat.succ_mul]
  simp only [fragFrame, fragLength, fragPayload]
  split
  · rename_i hi
    have hp : 0 < pkt.length := by
      rcases Nat.eq_zero_or_pos pkt.length with h0 | h0
      · have : n = 1 := by simp only [n, h0, frameCount_zero _ h1]
        omega
      · exact h0
    have hlt := frameCount_pred_mul_lt _ _ h1 hp
    have hm : (i + 1) * cfg.capacity ≤ (n - 1) * cfg.capacity := Nat.mul_le_mul_right _ (by omega)
    rw [Nat.succ_mul] at hm
    have hlt' : (n - 1) * cfg.capacity < pkt.length := hlt
    simp only [slice, List.length_take, List.length_drop, BitVec.toNat_ofNat]
    rw [Nat.mod_eq_of_lt (by omega), Nat.add_sub_cancel_left]
    omega
  · simp only [slice, List.length_take, List.length_drop, BitVec.toNat_ofNat]
    rw [Nat.mod_eq_of_lt (by omega)]
    omega

end Sys2Proof.Machine
end

