-- ==== Sys2Proof/Laws/Ops.lean ====
section
/-! SUPPORT. What the shared operations on the state can do, said once: ending a RECV with a disposition, and
the receive stages. -/

namespace Sys2Proof.Machine

/-! ### The status channel: rules R81, R220 -/

@[simp] theorem recvWord_recv (status : Bool) (d : Disposition) :
    (Result.recv status d).recvWord = some (d.code ++ BitVec.ofBool status) := rfl

/-- A disposition's code decodes to its row. -/
@[simp] theorem decodeDisp_code (d : Disposition) : decodeDisp d.code = .ok (dispositionInstr d) := by
  cases d <;> rfl

/-! ### `dispose`: rule R220, row by row -/

@[simp] theorem dispose_delivered_single (s : State) (h : s.frame.frameClass = .single) :
    dispose .delivered s = endRecv .delivered (emit (.deliver s.frame.netPacket s.frame.addressing0) s) := by
  simp [dispose, h]

@[simp] theorem dispose_delivered_fragment (s : State) (h : s.frame.frameClass ≠ .single) :
    dispose .delivered s =
      endRecv .delivered
        (emit (.deliver (reasmAppended s) s.frame.addressing0) { s with reasm := [] }) := by
  simp [dispose, h]

@[simp] theorem dispose_buffered (s : State) :
    dispose .buffered s = endRecv .buffered { s with reasm := reasmAppended s } := rfl

@[simp] theorem dispose_dropAddr (s : State) : dispose .dropAddr s = endRecv .dropAddr s := rfl

@[simp] theorem dispose_dropQuarantine (s : State) :
    dispose .dropQuarantine s =
      endRecv .dropQuarantine { s with error := errorAfterQuarantine s.error s.frame } := rfl

@[simp] theorem dispose_dropCrc (s : State) :
    dispose .dropCrc s = endRecv .dropCrc { s with error := errorAfterCrc } := rfl

@[simp] theorem dispose_dropOverflow (s : State) :
    dispose .dropOverflow s =
      endRecv .dropOverflow { s with reasm := [], error := errorAfterOverflow s.error s.frame } := rfl

@[simp] theorem dispose_malformed (s : State) : dispose .malformed s = endRecv .malformed s := rfl

/-! ### What every disposition leaves, and what it always writes (rules R204, R220) -/

theorem dispose_cfg (d : Disposition) (s : State) : (dispose d s).cfg = s.cfg := by
  cases d <;> simp [dispose]; split <;> simp

theorem dispose_inbox (d : Disposition) (s : State) : (dispose d s).inbox = s.inbox := by
  cases d <;> simp [dispose]; split <;> simp

theorem dispose_dst (d : Disposition) (s : State) : (dispose d s).dst = s.dst := by
  cases d <;> simp [dispose]; split <;> simp

theorem dispose_result (d : Disposition) (s : State) :
    (dispose d s).result = .recv (statusOf d) d := by
  cases d <;> simp [dispose]; split <;> simp

theorem dispose_frame (d : Disposition) (s : State) :
    (dispose d s).frame = { s.frame with length := 0, netPacket := [] } := by
  cases d <;> simp [dispose]; split <;> simp

theorem endRecv_released (d : Disposition) (s : State) : (endRecv d s).Released := by
  simp [State.Released]

theorem dispose_released (d : Disposition) (s : State) : (dispose d s).Released := by
  unfold dispose
  cases d <;> simp only
  case delivered => split <;> exact endRecv_released ..
  all_goals exact endRecv_released ..

/-- Ending with a test for room is ending with the disposition, or with DROP_OVERFLOW (rule R176). -/
theorem disposeTested_cases (d : Disposition) (s : State) :
    (overflows s = true ∧ disposeTested d s = dispose .dropOverflow s) ∨
      (overflows s = false ∧ disposeTested d s = dispose d s) := by
  unfold disposeTested
  cases h : overflows s <;> simp

theorem overflows_eq_false_iff (s : State) :
    overflows s = false ↔ (reasmBase s).length + s.frame.length.toNat ≤ s.cfg.reasmMax := by
  simp [overflows]

/-- REASM ends its RECV with one disposition on the frame in hand: it delivers, stores, or finds no room. -/
theorem reasmOp_cases (s : State) :
    (s.frame.frameClass = .single ∧ reasmOp s = dispose .delivered s) ∨
    (s.frame.frameClass ≠ .single ∧ overflows s = true ∧ reasmOp s = dispose .dropOverflow s) ∨
    (s.frame.frameClass = .last ∧ overflows s = false ∧ reasmOp s = dispose .delivered s) ∨
    ((s.frame.frameClass = .first ∨ s.frame.frameClass = .middle) ∧ overflows s = false ∧
      reasmOp s = dispose .buffered s) := by
  unfold reasmOp disposeTested
  cases s.frame.frameClass <;> cases overflows s <;> simp

/-! ### The stages of RECV -/

@[simp] theorem Stage.bind_goesOn (s : State) (f : State → Stage) : (Stage.goesOn s).bind f = f s := rfl

@[simp] theorem Stage.bind_ended (s : State) (f : State → Stage) : (Stage.ended s).bind f = .ended s := rfl

@[simp] theorem Stage.finish_goesOn (s : State) : (Stage.goesOn s).finish = returnsNothing s := rfl

@[simp] theorem Stage.finish_ended (s : State) : (Stage.ended s).finish = s := rfl

/-- RECV ends with exactly one disposition: which, on which state, and why (rules R195, R226). -/
theorem recvStages_cases (s : State) :
    (recvStages s = dispose .malformed s ∧ (delimited s.raw = false ∨ destuffBody (bodyOf s.raw) = none)) ∨
    ∃ m, delimited s.raw = true ∧ destuffBody (bodyOf s.raw) = some m ∧
      ((unpackMessage m = none ∧ recvStages s = dispose .malformed (takeMessage m s)) ∨
      ∃ f, unpackMessage m = some f ∧
        ((accepts s.cfg f = false ∧ recvStages s = dispose .dropAddr (takeFrame f (takeMessage m s))) ∨
        (accepts s.cfg f = true ∧ gated s.error f = true ∧
          recvStages s = dispose .dropQuarantine (takeFrame f (takeMessage m s))) ∨
        (accepts s.cfg f = true ∧ gated s.error f = false ∧
          (crcChkOp (takeFrame f (takeMessage m s))).crcOk = false ∧
          recvStages s = dispose .dropCrc (crcChkOp (takeFrame f (takeMessage m s)))) ∨
        (accepts s.cfg f = true ∧ gated s.error f = false ∧
          (crcChkOp (takeFrame f (takeMessage m s))).crcOk = true ∧
          recvStages s = reasmOp (crcChkOp (takeFrame f (takeMessage m s)))))) := by
  unfold recvStages destuffStage
  cases hd : delimited s.raw
  · exact .inl ⟨by simp, .inl rfl⟩
  cases hb : destuffBody (bodyOf s.raw) with
  | none => exact .inl ⟨by simp, .inr rfl⟩
  | some m =>
    refine .inr ⟨m, rfl, rfl, ?_⟩
    cases hu : unpackMessage m with
    | none => exact .inl ⟨rfl, by simp [unpackStage, hu]⟩
    | some f =>
      refine .inr ⟨f, rfl, ?_⟩
      cases ha : accepts s.cfg f
      · exact .inl ⟨rfl, by simp [unpackStage, filterStage, hu, ha]⟩
      cases hg : gated s.error f
      · cases hc : (crcChkOp (takeFrame f (takeMessage m s))).crcOk
        · exact .inr (.inr (.inl ⟨rfl, rfl, rfl, by
            simp [-crcChkOp_crcOk, unpackStage, filterStage, gateStage, crcStage, hu, ha, hg, hc]⟩))
        · exact .inr (.inr (.inr ⟨rfl, rfl, rfl, by
            simp [-crcChkOp_crcOk, unpackStage, filterStage, gateStage, crcStage, hu, ha, hg, hc]⟩))
      · exact .inr (.inl ⟨rfl, rfl, by simp [unpackStage, filterStage, gateStage, hu, ha, hg]⟩)

end Sys2Proof.Machine
end

