-- ==== Sys2Proof/Laws/PerInstr.lean ====
section
/-! SUPPORT. What holds of every instruction as syntax, one lemma per constructor: the encoder puts an
instruction into the format of its row of spec/opcode_table.json. -/

namespace Sys2Proof.Laws.EncodeFormat

/-- The transaction that carries the instruction has the format of its row. -/
def Statement (i : Instr) : Prop := (encode i).format = i.format

theorem nop : Statement (.nop) := rfl
theorem send (pkt : Bytes) (dst : Byte) : Statement (.send pkt dst) := rfl
theorem recv (raw : Bytes) : Statement (.recv raw) := rfl
theorem reset : Statement (.reset) := rfl
theorem crc16 (s : Bytes) : Statement (.crc16 s) := rfl
theorem crcGen : Statement (.crcGen) := rfl
theorem crcChk : Statement (.crcChk) := rfl
theorem pack : Statement (.pack) := rfl
theorem stuff : Statement (.stuff) := rfl
theorem destuff : Statement (.destuff) := rfl
theorem unpack : Statement (.unpack) := rfl
theorem frag : Statement (.frag) := rfl
theorem filter : Statement (.filter) := rfl
theorem gate : Statement (.gate) := rfl
theorem reasm : Statement (.reasm) := rfl
theorem msg (c0 c1 src dst len : Byte) (payload : Bytes) (ck0 ck1 : Byte) : Statement (.msg c0 c1 src dst len payload ck0 ck1) := rfl
theorem flag : Statement (.flag) := rfl
theorem escFlag : Statement (.escFlag) := rfl
theorem escEsc : Statement (.escEsc) := rfl
theorem escAny (x : Byte) : Statement (.escAny x) := rfl
theorem lit (b : Byte) : Statement (.lit b) := rfl
theorem single (c0 : Byte) : Statement (.single c0) := rfl
theorem first (c1 : Byte) : Statement (.first c1) := rfl
theorem last (c : Byte) : Statement (.last c) := rfl
theorem middle (c0 c1 : Byte) : Statement (.middle c0 c1) := rfl
theorem delivered : Statement (.delivered) := rfl
theorem buffered : Statement (.buffered) := rfl
theorem dropAddr : Statement (.dropAddr) := rfl
theorem dropQuarantine : Statement (.dropQuarantine) := rfl
theorem dropCrc : Statement (.dropCrc) := rfl
theorem dropOverflow : Statement (.dropOverflow) := rfl
theorem malformed : Statement (.malformed) := rfl

end Sys2Proof.Laws.EncodeFormat
end

