-- ==== Sys2Proof/Laws/Stuffing.lean ====
section
/-! SUPPORT. Small laws of the escapes, the stuffed frame and the message layout (rules R59, R121 to R128). -/

namespace Sys2Proof.Machine

/-! ### Escapes -/

theorem escape_reserved {b : Byte} (h : b = flagByte ∨ b = escByte) :
    escape b = [escByte, b ^^^ escMask] := by
  simp only [escape, if_pos h]

theorem escape_ordinary {b : Byte} (h : ¬ (b = flagByte ∨ b = escByte)) : escape b = [b] := by
  simp only [escape, if_neg h]

theorem unescape_xor (b : Byte) : unescape (b ^^^ escMask) = b := by
  simp [unescape]

theorem destuffBody_esc (x : Byte) (rest : Bytes) :
    destuffBody (escByte :: x :: rest) = (destuffBody rest).map (unescape x :: ·) := by
  simp [destuffBody]

theorem destuffBody_lit {b : Byte} (h : b ≠ escByte) (rest : Bytes) :
    destuffBody (b :: rest) = (destuffBody rest).map (b :: ·) := by
  cases rest <;> simp [destuffBody, h]

/-- DESTUFF undoes one escape, whatever follows. -/
theorem destuffBody_escape (b : Byte) (rest : Bytes) :
    destuffBody (escape b ++ rest) = (destuffBody rest).map (b :: ·) := by
  by_cases h : b = flagByte ∨ b = escByte
  · rw [escape_reserved h]
    simp only [List.cons_append, List.nil_append, destuffBody_esc, unescape_xor]
  · rw [escape_ordinary h]
    exact destuffBody_lit (fun e => h (.inr e)) rest

/-! ### The delimiters -/

theorem stuffBytes_length (m : Bytes) : (stuffBytes m).length = (m.flatMap escape).length + 2 := by
  simp [stuffBytes]

theorem bodyOf_delimited (body : Bytes) : bodyOf ([flagByte] ++ body ++ [flagByte]) = body := by
  simp [bodyOf, slice]

theorem bodyOf_stuffBytes (m : Bytes) : bodyOf (stuffBytes m) = m.flatMap escape := bodyOf_delimited _

theorem delimited_stuffBytes (m : Bytes) : delimited (stuffBytes m) = true := by
  simp [delimited, stuffBytes, byteAt]

/-! ### The message layout -/

theorem protectedBytes_length (f : Frame) : (protectedBytes f).length = 5 + f.netPacket.length := by
  simp [protectedBytes]; omega

theorem packMessage_length (f : Frame) : (packMessage f).length = 7 + f.netPacket.length := by
  simp [packMessage, protectedBytes_length]; omega

theorem byteAt_cons_succ (b : Byte) (s : Bytes) (k : Nat) : byteAt (b :: s) (k + 1) = byteAt s k := by
  simp [byteAt]

theorem byteAt_append_length (p q : Bytes) (k : Nat) : byteAt (p ++ q) (p.length + k) = byteAt q k := by
  simp [byteAt, List.getElem?_append]

/-- UNPACK of a message laid out by rule R70 gives the fields. -/
theorem unpackMessage_fields (c0 c1 a0 a1 len k0 k1 : Byte) (p : Bytes) (h : p.length = len.toNat) :
    unpackMessage ([c0, c1, a0, a1, len] ++ p ++ [k0, k1]) =
      some { control0 := c0, control1 := c1, addressing0 := a0, addressing1 := a1, length := len,
             netPacket := p, checksum0 := k0, checksum1 := k1 } := by
  have hm : [c0, c1, a0, a1, len] ++ p ++ [k0, k1] = c0 :: c1 :: a0 :: a1 :: len :: (p ++ [k0, k1]) := by
    simp
  have h4 : byteAt (c0 :: c1 :: a0 :: a1 :: len :: (p ++ [k0, k1])) 4 = len := rfl
  have hl : (c0 :: c1 :: a0 :: a1 :: len :: (p ++ [k0, k1])).length = 7 + len.toNat := by
    simp [← h]; omega
  have hp : slice (c0 :: c1 :: a0 :: a1 :: len :: (p ++ [k0, k1])) 5 (5 + len.toNat) = p := by
    simp [slice, ← h]
  have h5 : byteAt (c0 :: c1 :: a0 :: a1 :: len :: (p ++ [k0, k1])) (5 + len.toNat) = k0 := by
    rw [← h, Nat.add_comm]; simp only [byteAt_cons_succ]; exact byteAt_append_length p [k0, k1] 0
  have h6 : byteAt (c0 :: c1 :: a0 :: a1 :: len :: (p ++ [k0, k1])) (6 + len.toNat) = k1 := by
    rw [← h, show 6 + p.length = p.length + 1 + 5 by omega]
    simp only [byteAt_cons_succ]; exact byteAt_append_length p [k0, k1] 1
  rw [hm]
  unfold unpackMessage
  rw [if_neg (by omega), h4, if_neg (by omega)]
  simp only [hp, h5, h6]
  rfl

/-- What UNPACK accepts has a payload of the declared length (rules R39, R128). -/
theorem unpackMessage_length {m : Bytes} {f : Frame} (h : unpackMessage m = some f) :
    f.length.toNat = f.netPacket.length := by
  unfold unpackMessage at h
  split at h
  · cases h
  split at h
  · cases h
  · rename_i h1 h2
    cases h
    simp [slice]
    omega

end Sys2Proof.Machine
end

