-- ==== Sys2Proof/Tests/Slice0.lean ====
section
/-! SUPPORT. Tests. Words and expected values are written out from spec/30_encoding.md, spec/opcode_table.json and the
vectors of spec/95_test_vectors.md, which each test names; then, for every statement with hypotheses, states and
operands that meet them. -/

namespace Sys2Proof.Tests

open Sys2Proof.Machine

/-! ## Small states -/

/-- The instance `A` of the vectors. -/
def cfgA : Cfg := { localAddr := 0x0A }

/-- The instance `B` of the vectors. -/
def cfgB : Cfg := { localAddr := 0x0B }

/-- A frame from 0A to `dst` with a one-byte `length` that fits its payload. -/
def frameTo (dst c0 c1 : Byte) (payload : Bytes) (k0 k1 : Byte) : Frame :=
  { control0 := c0, control1 := c1, addressing0 := 0x0A, addressing1 := dst,
    length := BitVec.ofNat 8 payload.length, netPacket := payload, checksum0 := k0, checksum1 := k1 }

/-- `B` with a frame in its registers. -/
def holding (error : Bool) (reasm : Bytes) (f : Frame) : State :=
  { State.resetWith cfgB with error := error, reasm := reasm, frame := f }

/-- `B` with a persistent state. -/
def between (error : Bool) (reasm : Bytes) : State :=
  { State.resetWith cfgB with error := error, reasm := reasm }

/-- The outcome is a next state of which `p` holds. -/
def nextHas (o : Host.Outcome State Fault Refusal) (p : State → Bool) : Bool :=
  match o with
  | .next t => p t
  | .fault _ => false
  | .refused _ => false

/-- The outcome is the refusal `r`. -/
def refusedAs (o : Host.Outcome State Fault Refusal) (r : Refusal) : Bool :=
  match o with
  | .next _ => false
  | .fault _ => false
  | .refused q => decide (q = r)

/-- The persistent state, the events and the result of an outcome. -/
def leaves (o : Host.Outcome State Fault Refusal) (error : Bool) (reasm : Bytes) (events : List Event)
    (result : Result) : Bool :=
  nextHas o fun t =>
    decide (t.error = error ∧ t.reasm = reasm ∧ t.events = events ∧ t.result = result)

/-! ## Ill-formed terms, one for each check -/

theorem test_wf_send_too_long : (Instr.send (List.replicate 256 0) 0).wellFormed = false := by
  decide +kernel

theorem test_wf_recv_too_long : (Instr.recv (List.replicate 256 0)).wellFormed = false := by
  decide +kernel

theorem test_wf_msg_length : (Instr.msg 0 0 0 0 2 [0x42] 0 0).wellFormed = false := by decide

theorem test_wf_esc_any_flag : (Instr.escAny 0x5D).wellFormed = false := by decide

theorem test_wf_esc_any_esc : (Instr.escAny 0x5E).wellFormed = false := by decide

theorem test_wf_lit_esc : (Instr.lit 0x7E).wellFormed = false := by decide

theorem test_wf_first_is_single : (Instr.first 0).wellFormed = false := by decide

theorem test_wf_last_is_single : (Instr.last 0).wellFormed = false := by decide

theorem test_wf_middle_is_single : (Instr.middle 1 0).wellFormed = false := by decide

theorem test_wf_middle_is_first : (Instr.middle 0 2).wellFormed = false := by decide

theorem test_wf_middle_is_last : (Instr.middle 2 2).wellFormed = false := by decide

/-! ## Decoding: every constructor by a word or a byte string written out from the spec -/

/-- Rule R80: 00, 01, 10, 11. -/
theorem test_decode_cmd :
    decode (.cmd 0b00 [] 0) = .ok .nop ∧ decode (.cmd 0b01 [0xDE, 0xAD] 0x0A) = .ok (.send [0xDE, 0xAD] 0x0A) ∧
      decode (.cmd 0b10 [0x7D, 0x7D] 0) = .ok (.recv [0x7D, 0x7D]) ∧ decode (.cmd 0b11 [] 0) = .ok .reset := by
  decide

/-- The table gives the engine rows no bits; their names are their encodings. -/
theorem test_decode_engine :
    decode (.engine (.crc16 [0x01])) = .ok (.crc16 [0x01]) ∧ decode (.engine .crcGen) = .ok .crcGen ∧
      decode (.engine .crcChk) = .ok .crcChk ∧ decode (.engine .pack) = .ok .pack ∧
      decode (.engine .stuff) = .ok .stuff ∧ decode (.engine .destuff) = .ok .destuff ∧
      decode (.engine .unpack) = .ok .unpack ∧ decode (.engine .frag) = .ok .frag ∧
      decode (.engine .filter) = .ok .filter ∧ decode (.engine .gate) = .ok .gate ∧
      decode (.engine .reasm) = .ok .reasm := by
  decide

/-- V-UP-1. -/
theorem test_decode_msg :
    decode (.msg [0x01, 0x01, 0x0A, 0x0B, 0x01, 0x09, 0xF6, 0xD2]) =
      .ok (.msg 0x01 0x01 0x0A 0x0B 0x01 [0x09] 0xF6 0xD2) := by
  decide

/-- V-UP-3, V-UP-4, V-UP-5. -/
theorem test_decode_msg_malformed :
    decode (.msg [0x00, 0x00, 0x0A, 0x0B, 0x00, 0xBA]) = .error .messageTooShort ∧
      decode (.msg [0x00, 0x00, 0x0A, 0x0B, 0x02, 0x42, 0x12, 0x34]) = .error .messageLengthMismatch ∧
      decode (.msg [0x00, 0x00, 0x0A, 0x0B, 0x00, 0x42, 0xBA, 0x8B]) = .error .messageLengthMismatch := by
  decide

/-- Rules R73 to R75: 01111101; 01111110 01011101; 01111110 01011110; 01111110 xxxxxxxx; bbbbbbbb. -/
theorem test_decode_wire :
    decode (.delim 0b01111101) = .ok .flag ∧ decode (.delim 0b00000000) = .error .notDelimiter ∧
      decode (.body [0b01111110, 0b01011101]) = .ok .escFlag ∧
      decode (.body [0b01111110, 0b01011110]) = .ok .escEsc ∧
      decode (.body [0b01111110, 0b00101010]) = .ok (.escAny 0x2A) ∧
      decode (.body [0b01111110, 0b01111110]) = .ok (.escAny 0x7E) ∧
      decode (.body [0b01111101]) = .ok (.lit 0x7D) ∧
      decode (.body [0b01111110]) = .error .danglingEscape := by
  decide

/-- Rule R78, with the pairs of V-RX-10 and V-RX-13. -/
theorem test_decode_ctrl :
    decode (.ctrl 0x05 0x00) = .ok (.single 0x05) ∧ decode (.ctrl 0x00 0x02) = .ok (.first 0x02) ∧
      decode (.ctrl 0x02 0x02) = .ok (.last 0x02) ∧ decode (.ctrl 0x03 0x02) = .ok (.middle 0x03 0x02) := by
  decide

/-- Rule R220. -/
theorem test_decode_disp :
    decode (.disp 0b000) = .ok .delivered ∧ decode (.disp 0b001) = .ok .buffered ∧
      decode (.disp 0b010) = .ok .dropAddr ∧ decode (.disp 0b011) = .ok .dropQuarantine ∧
      decode (.disp 0b100) = .ok .dropCrc ∧ decode (.disp 0b101) = .ok .dropOverflow ∧
      decode (.disp 0b110) = .ok .malformed ∧ decode (.disp 0b111) = .error .dispositionReserved := by
  decide

/-- The rows of the table that have bits, as the table numbers them. -/
theorem test_decode_table_words :
    decodeTableWord 8 0b00 = some .nop ∧ decodeTableWord 8 0b01 = some (.send [] 0) ∧
      decodeTableWord 8 0b10 = some (.recv []) ∧ decodeTableWord 8 0b11 = some .reset ∧
      decodeTableWord 8 0x7D = some .flag ∧ decodeTableWord 16 0x7E5D = some .escFlag ∧
      decodeTableWord 16 0x7E5E = some .escEsc ∧ decodeTableWord 16 0x7E00 = some (.escAny 0x00) ∧
      decodeTableWord 8 0x41 = some (.lit 0x41) ∧ decodeTableWord 16 0x0000 = some (.single 0x00) ∧
      decodeTableWord 16 0x0001 = some (.first 0x01) ∧ decodeTableWord 16 0x0101 = some (.last 0x01) ∧
      decodeTableWord 16 0x0102 = some (.middle 0x01 0x02) ∧
      decodeTableWord 3 0b011 = some .dropQuarantine ∧ decodeTableWord 8 0b100 = some .dropCrc ∧
      decodeTableWord 8 0b101 = some .dropOverflow ∧ decodeTableWord 8 0b110 = some .malformed ∧
      decodeTableWord 8 0b111 = none := by
  decide

/-! ## A step from reset runs the word that was placed -/

/-- Rules R200, R201. -/
theorem test_step_runs_placed_word :
    step (State.reset.withFetchWord 8 0b00) = .next State.reset ∧
      step (State.reset.withFetchWord 8 0b11) = .next State.reset := by
  exact ⟨rfl, rfl⟩

/-- Rule R190: SEND with the empty payload emits one frame; rule R83 M1: RECV of the empty string. -/
theorem test_step_from_reset_send_recv :
    nextHas (step (State.reset.withFetchWord 8 0b01)) (fun t => decide (t.events.length = 1)) = true ∧
      leaves (step (State.reset.withFetchWord 8 0b10)) false [] [] (.recv false .malformed) = true := by
  decide +kernel

/-! ## The host's operations -/

/-- P4, step 3. -/
theorem test_nop_changes_nothing : exec .nop (between true [0x10]) = .next (between true [0x10]) := rfl

/-- P1, step 1. -/
theorem test_send_two_frames :
    leaves (exec (.send [0x01, 0x02, 0x03, 0x04, 0x05, 0x06, 0x07, 0x08, 0x09] 0x0B) (State.resetWith cfgA))
      false []
      [.tx [0x7D, 0x00, 0x01, 0x0A, 0x0B, 0x08, 0x01, 0x02, 0x03, 0x04, 0x05, 0x06, 0x07, 0x08, 0x9E, 0xE6, 0x7D],
        .tx [0x7D, 0x01, 0x01, 0x0A, 0x0B, 0x01, 0x09, 0xF6, 0xD2, 0x7D]]
      (.send true) = true := by
  decide +kernel

/-- P5, step 1: reserved bytes everywhere, capacity 3. -/
theorem test_send_reserved_bytes :
    leaves (exec (.send [0x7D, 0x7E, 0x00, 0x5D, 0x7D, 0x7D, 0x20] 0x7D)
        (State.resetWith { localAddr := 0x7E, capacity := 3 }))
      false []
      [.tx [0x7D, 0x00, 0x02, 0x7E, 0x5E, 0x7E, 0x5D, 0x03, 0x7E, 0x5D, 0x7E, 0x5E, 0x00, 0x78, 0xA2, 0x7D],
        .tx [0x7D, 0x01, 0x02, 0x7E, 0x5E, 0x7E, 0x5D, 0x03, 0x5D, 0x7E, 0x5D, 0x7E, 0x5D, 0xE1, 0x29, 0x7D],
        .tx [0x7D, 0x02, 0x02, 0x7E, 0x5E, 0x7E, 0x5D, 0x01, 0x20, 0xE8, 0x00, 0x7D]]
      (.send true) = true := by
  decide +kernel

/-- V-RX-8: the gate comes before the CRC check, and a LAST fragment clears `error`. -/
theorem test_recv_quarantine_before_crc :
    leaves (exec (.recv [0x7D, 0x01, 0x01, 0x0A, 0x0B, 0x01, 0x08, 0xF6, 0xD2, 0x7D]) (between true []))
      false [] [] (.recv true .dropQuarantine) = true := by
  decide +kernel

/-- V-RX-15: stale bytes are delivered. -/
theorem test_recv_last_delivers_buffer :
    leaves (exec (.recv [0x7D, 0x01, 0x01, 0x0A, 0x0B, 0x01, 0xAA, 0xF5, 0x18, 0x7D])
        (between false [0x10, 0x11, 0x12, 0x13, 0x14, 0x15, 0x16, 0x17]))
      false [] [.deliver [0x10, 0x11, 0x12, 0x13, 0x14, 0x15, 0x16, 0x17, 0xAA] 0x0A]
      (.recv true .delivered) = true := by
  decide +kernel

/-- Rule R200's worked example. -/
theorem test_reset_discards :
    leaves (exec .reset (between true [0x10, 0x11])) false [] [] .nothing = true := by
  decide

/-! ## The CRC engine -/

/-- V-CRC-9 and V-CRC-4 at 0x8005. -/
theorem test_crc16_check_value :
    crc16 0x8005 [0x31, 0x32, 0x33, 0x34, 0x35, 0x36, 0x37, 0x38, 0x39] = 0xFEE8 ∧
      nextHas (exec (.crc16 [0x80]) State.reset) (fun t => decide (t.crc = 0x8303)) = true := by
  decide +kernel

/-- V-CRC-8, V-CRC-9 at 0xFFF1. -/
theorem test_crc16_other_polynomial :
    crc16 0xFFF1 [0x01, 0x00] = 0x0980 ∧
      crc16 0xFFF1 [0x31, 0x32, 0x33, 0x34, 0x35, 0x36, 0x37, 0x38, 0x39] = 0xAEF9 := by
  decide +kernel

/-- V-GEN-11: the high byte first. -/
theorem test_crc_gen_big_endian :
    nextHas (exec .crcGen (holding false [] (frameTo 0x0B 0 0 [0x6F, 0x90] 0 0)))
      (fun t => decide (t.frame.checksum0 = 0x7E ∧ t.frame.checksum1 = 0x7D)) = true := by
  decide +kernel

/-- V-GEN-13: the all-zero frame, over a stale checksum. -/
theorem test_crc_gen_all_zero :
    nextHas (exec .crcGen { State.reset with frame := { Frame.default with checksum0 := 0xFF } })
      (fun t => decide (t.frame.checksum0 = 0 ∧ t.frame.checksum1 = 0)) = true := by
  decide +kernel

/-- V-CHK-3: one flipped bit of the low checksum byte fails. -/
theorem test_crc_chk_fails :
    nextHas (exec .crcChk (holding false [] (frameTo 0x0B 1 1 [0x09] 0xF6 0xD3)))
      (fun t => decide (t.crcOk = false ∧ t.error = false)) = true := by
  decide +kernel

/-- V-CHK-1. -/
theorem test_crc_chk_passes :
    nextHas (exec .crcChk (holding false [] (frameTo 0x0B 1 1 [0x09] 0xF6 0xD2)))
      (fun t => t.crcOk) = true := by
  decide +kernel

/-- Rule R106 says that a passing check is equivalent to the CRC of the whole message being zero. From right to left
this needs an odd polynomial: by rule R100's loop, at the legal polynomial 0x0002 the bytes 80 01 have the CRC 0 and
are not the CRC of the empty string (notes/assumptions/14.md). -/
theorem test_crc_zero_residue_needs_odd_polynomial :
    crc16 0x0002 [] = 0 ∧ crc16 0x0002 ([] ++ [0x80, 0x01]) = 0 := by
  decide +kernel

/-! ## The stuffer and destuffer -/

/-- V-GEN-3. -/
theorem test_pack :
    nextHas (exec .pack (holding false [] (frameTo 0x0B 0 0 [0x7D] 0x8F 0x92)))
      (fun t => decide (t.msg = [0x00, 0x00, 0x0A, 0x0B, 0x01, 0x7D, 0x8F, 0x92])) = true := by
  decide

/-- V-ST-3: 5D, 5E and 20 are not escaped. -/
theorem test_stuff :
    nextHas (exec .stuff { State.reset with
        msg := [0x00, 0x00, 0x0A, 0x0B, 0x05, 0x7D, 0x7E, 0x5D, 0x5E, 0x20, 0xFF, 0x24] })
      (fun t => decide (t.stuffed = [0x7D, 0x00, 0x00, 0x0A, 0x0B, 0x05, 0x7E, 0x5D, 0x7E, 0x5E, 0x5D, 0x5E, 0x20,
        0xFF, 0x24, 0x7D])) = true := by
  decide

/-- V-ST-9. -/
theorem test_stuff_empty :
    nextHas (exec .stuff State.reset) (fun t => decide (t.stuffed = [0x7D, 0x7D])) = true := by
  decide

/-- V-DS-3: the second pair is decoded after the first. -/
theorem test_destuff_pairs :
    nextHas (exec .destuff { State.reset with raw := [0x7D, 0x7E, 0x7E, 0x7E, 0x5D, 0x7D] })
      (fun t => decide (t.msg = [0x5E, 0x7D])) = true := by
  decide

/-- V-DS-5: a dangling escape. -/
theorem test_destuff_dangling :
    leaves (exec .destuff { between true [0x01] with raw := [0x7D, 0x41, 0x7E, 0x7D] })
      true [0x01] [] (.recv false .malformed) = true := by
  decide

/-- V-UP-1. -/
theorem test_unpack :
    nextHas (exec .unpack { State.reset with msg := [0x01, 0x01, 0x0A, 0x0B, 0x01, 0x09, 0xF6, 0xD2] })
      (fun t => decide (t.frame = frameTo 0x0B 0x01 0x01 [0x09] 0xF6 0xD2)) = true := by
  decide

/-- V-UP-5: the length byte says 0 and eight bytes are there. -/
theorem test_unpack_malformed :
    leaves (exec .unpack { State.reset with msg := [0x00, 0x00, 0x0A, 0x0B, 0x00, 0x42, 0xBA, 0x8B] })
      false [] [] (.recv false .malformed) = true := by
  decide

/-- V-GEN-6, byte by byte. -/
theorem test_msg :
    nextHas (exec (.msg 0x01 0x01 0x0A 0x0B 0x01 [0x09] 0xF6 0xD2) State.reset)
      (fun t => decide (t.msg = [0x01, 0x01, 0x0A, 0x0B, 0x01, 0x09, 0xF6, 0xD2])) = true := by
  decide

/-- V-DS-4, V-DS-6, V-ST-10, V-ST-11: what the body bytes yield, after a message of one byte. -/
theorem test_body_bytes :
    nextHas (exec .flag { State.reset with msg := [0x41] }) (fun t => decide (t.msg = [0x41])) = true ∧
      nextHas (exec .escFlag { State.reset with msg := [0x41] })
        (fun t => decide (t.msg = [0x41, 0x7D])) = true ∧
      nextHas (exec .escEsc { State.reset with msg := [0x41] })
        (fun t => decide (t.msg = [0x41, 0x7E])) = true ∧
      nextHas (exec (.escAny 0x7D) { State.reset with msg := [0x41] })
        (fun t => decide (t.msg = [0x41, 0x5D])) = true ∧
      nextHas (exec (.lit 0x7D) { State.reset with msg := [0x41] })
        (fun t => decide (t.msg = [0x41, 0x7D])) = true := by
  decide

/-! ## The fragmenter -/

/-- V-FR-7: a full last frame, no empty one after it. -/
theorem test_frag_full_last :
    nextHas (exec .frag { State.resetWith cfgA with
        pkt := [0, 1, 2, 3, 4, 5, 6, 7, 8, 9, 10, 11, 12, 13, 14, 15], dst := 0x0B, fragIndex := 1 })
      (fun t => decide (t.numFrames = 2 ∧
        t.frame = frameTo 0x0B 1 1 [8, 9, 10, 11, 12, 13, 14, 15] 0 0)) = true := by
  decide

/-- V-FR-9: 255 bytes, the last of 32 frames has seven. -/
theorem test_frag_longest_packet :
    nextHas (exec .frag { State.resetWith cfgA with pkt := List.replicate 255 0x55, fragIndex := 31 })
      (fun t => decide (t.numFrames = 32 ∧ t.frame.control1 = 0x1F ∧ t.frame.length = 7 ∧
        t.frame.netPacket.length = 7)) = true := by
  decide +kernel

/-! ## The receive stages -/

/-- V-RX-1. -/
theorem test_filter_drops :
    leaves (exec .filter (holding false [] (frameTo 0x0C 0 0 [0x99] 0x0D 0xA5)))
      false [] [] (.recv true .dropAddr) = true := by
  decide

/-- V-RX-2. -/
theorem test_filter_broadcast :
    leaves (exec .filter (holding false [] (frameTo 0xFF 0 0 [0x55] 0x03 0xF1))) false [] [] .nothing = true := by
  decide

/-- V-RX-6. -/
theorem test_gate_first :
    leaves (exec .gate (holding true [] (frameTo 0x0B 0 1 [1, 2, 3, 4, 5, 6, 7, 8] 0x9E 0xE6)))
      true [] [] (.recv true .dropQuarantine) = true := by
  decide

/-- V-RX-7. -/
theorem test_gate_last_clears :
    leaves (exec .gate (holding true [] (frameTo 0x0B 1 1 [0x09] 0xF6 0xD2)))
      false [] [] (.recv true .dropQuarantine) = true := by
  decide

/-- V-OV-4: exactly full. -/
theorem test_reasm_exactly_full :
    nextHas (exec .reasm
        (holding false (List.replicate 200 0x11) (frameTo 0x0B 1 2 (List.replicate 55 0x22) 0x9F 0xE4)))
      (fun t => decide (t.reasm.length = 255 ∧ t.error = false ∧ t.result = .recv true .buffered)) = true := by
  decide +kernel

/-- V-OV-2: one byte too many. -/
theorem test_reasm_overflow :
    leaves (exec .reasm
        (holding false (List.replicate 200 0x11) (frameTo 0x0B 1 2 (List.replicate 56 0x22) 0x27 0xAC)))
      true [] [] (.recv true .dropOverflow) = true := by
  decide +kernel

/-- V-RX-10: `c0 = 5, c1 = 0` is SINGLE; `reasm` is not touched. -/
theorem test_single :
    leaves (exec (.single 0x05) (holding true [0x01] (frameTo 0x0B 0 0 [0xCC] 0x94 0x31)))
      true [0x01] [.deliver [0xCC] 0x0A] (.recv true .delivered) = true := by
  decide

/-- V-RX-14: FIRST overwrites. -/
theorem test_first_overwrites :
    leaves (exec (.first 0x02) (holding false [0xDD] (frameTo 0x0B 0 0 [0xEE] 0x0C 0x0B)))
      false [0xEE] [] (.recv true .buffered) = true := by
  decide

/-- V-RX-12: the source is the LAST fragment's. -/
theorem test_last_delivers :
    leaves (exec (.last 0x02)
        (holding false [0xAA] { frameTo 0x0B 0 0 [0xBB] 0x05 0xF6 with addressing0 := 0x0C }))
      false [] [.deliver [0xAA, 0xBB] 0x0C] (.recv true .delivered) = true := by
  decide

/-- V-OV-5: overflow at a LAST fragment does not set `error`. -/
theorem test_last_overflow :
    leaves (exec (.last 0x01)
        (holding false (List.replicate 200 0x11) (frameTo 0x0B 0 0 (List.replicate 56 0x22) 0x18 0xAC)))
      false [] [] (.recv true .dropOverflow) = true := by
  decide +kernel

/-- V-RX-13: `c0 > c1` is MIDDLE. -/
theorem test_middle_appends :
    leaves (exec (.middle 0x03 0x02) (holding false [0x01] (frameTo 0x0B 0 0 [0xDD] 0x84 0xA1)))
      false [0x01, 0xDD] [] (.recv true .buffered) = true := by
  decide

/-! ## The dispositions (rule R220, one row each) -/

theorem test_delivered :
    leaves (exec .delivered (holding false [0x01] (frameTo 0x0B 2 2 [0x02] 0 0)))
      false [] [.deliver [0x01, 0x02] 0x0A] (.recv true .delivered) = true := by
  decide

theorem test_buffered :
    leaves (exec .buffered (holding false [0x01] (frameTo 0x0B 0 2 [0x02] 0 0)))
      false [0x02] [] (.recv true .buffered) = true := by
  decide

theorem test_drop_addr :
    leaves (exec .dropAddr (holding true [0x01] (frameTo 0x0C 2 2 [0x02] 0 0)))
      true [0x01] [] (.recv true .dropAddr) = true := by
  decide

theorem test_drop_quarantine :
    leaves (exec .dropQuarantine (holding true [0x01] (frameTo 0x0B 2 2 [0x02] 0 0)))
      false [0x01] [] (.recv true .dropQuarantine) = true := by
  decide

theorem test_drop_crc :
    leaves (exec .dropCrc (holding false [0x01] (frameTo 0x0B 2 2 [0x02] 0 0)))
      true [0x01] [] (.recv true .dropCrc) = true := by
  decide

theorem test_drop_overflow :
    leaves (exec .dropOverflow (holding false [0x01] (frameTo 0x0B 1 2 [0x02] 0 0)))
      true [] [] (.recv true .dropOverflow) = true := by
  decide

theorem test_malformed :
    leaves (exec .malformed (holding false [0x01] (frameTo 0x0B 1 2 [0x02] 0 0)))
      false [0x01] [] (.recv false .malformed) = true := by
  decide

/-- Rule R81: the result word of DROP_QUARANTINE is 011 followed by the status bit 1. -/
theorem test_recv_result_word :
    (Result.recv true .dropQuarantine).recvWord = some 0b0111 ∧
      (Result.recv false .malformed).recvWord = some 0b1100 := by
  decide

/-! ## Witnesses: the hypotheses of the statements can be met -/

/-- The stuffed frame of a Frame. -/
def rawOf (f : Frame) : Bytes := stuffBytes (packMessage f)

/-- V-RX-3: a SINGLE frame with a good CRC. -/
def goodSingle : Frame := frameTo 0x0B 0 0 [0x42] 0x8F 0x10

/-- V-RX-4: the same with a flipped payload bit. -/
def badSingle : Frame := frameTo 0x0B 0 0 [0xC2] 0x8F 0x10

/-- P1, step 2: a FIRST fragment with a good CRC. -/
def goodFirst : Frame := frameTo 0x0B 0 1 [1, 2, 3, 4, 5, 6, 7, 8] 0x9E 0xE6

/-- P1, step 3: a LAST fragment with a good CRC. -/
def goodLast : Frame := frameTo 0x0B 1 1 [0x09] 0xF6 0xD2

/-- V-RX-11: a MIDDLE fragment with a good CRC. -/
def goodMiddle : Frame := frameTo 0x0B 1 2 [0xAA] 0xF5 0x90

/-- P2, step 3: a MIDDLE fragment with a corrupted payload. -/
def badMiddle : Frame := frameTo 0x0B 1 2 [0x19, 0x19, 0x1A, 0x1B, 0x1C, 0x1D, 0x1E, 0x1F] 0x35 0x9C

/-- P2, step 4: the LAST fragment of that packet. -/
def lastOfThree : Frame := frameTo 0x0B 2 2 [0x20, 0x21, 0x22, 0x23] 0x21 0xD4

/-- A receiver whose reassembly buffer holds one byte. -/
def cfgSmall : Cfg := { localAddr := 0x0B, reasmMax := 1 }

theorem witness_StepRunsDecodedInstruction :
    (∃ (s : State) (t : Transaction) (rest : List Transaction) (i : Instr),
      s.inbox = t :: rest ∧ decode t = .ok i) ∧
    (∃ (s : State) (rest : List Transaction) (i : Instr),
      i.wellFormed = true ∧ s.inbox = encode i :: rest) ∧
    (∃ s : State, s.inbox = []) :=
  ⟨⟨{ State.reset with inbox := [.cmd 0b11 [] 0, .cmd 0b00 [] 0] }, .cmd 0b11 [] 0, [.cmd 0b00 [] 0], .reset,
      rfl, rfl⟩,
    ⟨{ State.reset with inbox := [encode (.recv [0x7D])] }, [], .recv [0x7D], by decide, rfl⟩,
    ⟨State.reset, rfl⟩⟩

theorem witness_AccessorsReadState :
    (between true [1, 2]).Inv ∧ (between false (List.replicate 255 0)).Inv ∧ (between false []).Inv := by
  decide +kernel

theorem witness_StepKeepsInvariant :
    ∃ s t : State, s.Inv ∧ s.reasm ≠ [] ∧ step s = .next t :=
  ⟨{ holding false [1] goodLast with inbox := [.engine .reasm] }, _, by decide, by decide, rfl⟩

theorem witness_HostStepsReleaseBuffersAndIndices :
    ∃ s t : State, s.HostOnly ∧ s.inbox ≠ [] ∧ s.Released ∧ step s = .next t :=
  ⟨{ between true [1] with inbox := [.cmd 0b10 [0x7D] 0] }, _, by decide, by decide, by decide, rfl⟩

theorem witness_HostStepsAlwaysAnswer :
    ∃ s : State, s.HostOnly ∧ ∃ data, data.length = 255 ∧ s.inbox = [.cmd 0b01 data 0] :=
  ⟨{ State.reset with inbox := [.cmd 0b01 (List.replicate 255 0) 0] }, by decide +kernel, List.replicate 255 0,
    by decide +kernel, rfl⟩

theorem witness_DecodeOfEncode :
    (Instr.send (List.replicate 255 0) 0xFF).wellFormed = true ∧
      (Instr.msg 1 1 2 3 255 (List.replicate 255 7) 4 5).wellFormed = true ∧
      (Instr.msg 1 1 2 3 0 [] 4 5).wellFormed = true ∧ (Instr.escAny 0x5C).wellFormed = true ∧
      (Instr.lit 0x7F).wellFormed = true ∧ (Instr.middle 0xFF 0x01).wellFormed = true := by
  decide +kernel

theorem witness_DecodedIsWellFormed :
    ∃ (t : Transaction) (i : Instr), decode t = .ok i ∧ i = .escAny 0x7E :=
  ⟨.body [0x7E, 0x7E], .escAny 0x7E, by decide, rfl⟩

theorem witness_FrameClassesPartition :
    (∃ c1 : Byte, c1 = 0) ∧ (∃ c0 c1 : Byte, c1 ≠ 0 ∧ c0 = 0) ∧ (∃ c0 c1 : Byte, c1 ≠ 0 ∧ c0 = c1) ∧
      (∃ c0 c1 : Byte, c1 ≠ 0 ∧ c0 ≠ 0 ∧ c0 ≠ c1) :=
  ⟨⟨0, rfl⟩, ⟨0, 1, by decide⟩, ⟨1, 1, by decide⟩, ⟨2, 1, by decide⟩⟩

theorem witness_Crc16IsLinear : ([0x7D, 0x7E] : Bytes).length = ([0x01, 0x02] : Bytes).length := rfl

theorem witness_Crc16SeesEveryBitFlip : ∃ k : Nat, k < 8 ∧ ∃ cfg : Cfg, cfg.poly = 0x8000 :=
  ⟨7, by decide, { localAddr := 0, poly := 0x8000 }, rfl⟩

theorem witness_CrcChkComparesChecksum :
    (∃ s : State, s.cfg.poly.getLsbD 0 = true ∧
      crc16 s.cfg.poly ([s.frame.control0, s.frame.control1, s.frame.addressing0, s.frame.addressing1,
        s.frame.length] ++ s.frame.netPacket ++ [s.frame.checksum0, s.frame.checksum1]) = 0 ∧
      s.frame ≠ Frame.default) ∧
    (∃ s : State, s.frame = Frame.default) :=
  ⟨⟨holding false [] goodLast, by decide +kernel⟩, ⟨State.reset, rfl⟩⟩

theorem witness_PackLaysOutMessage :
    ∃ f : Frame, f.length.toNat = f.netPacket.length ∧ f.netPacket.length = 255 :=
  ⟨frameTo 0 0 0 (List.replicate 255 0x7D) 0 0, by decide +kernel⟩

theorem witness_StuffedLength :
    ∃ f : Frame, f.length.toNat = f.netPacket.length ∧ f.netPacket = [] :=
  ⟨Frame.default, by decide⟩

theorem witness_StuffAndPackRoundTrip :
    ∃ s : State, s.frame.length.toNat = s.frame.netPacket.length ∧ s.frame.netPacket ≠ [] :=
  ⟨holding false [] goodLast, by decide⟩

theorem witness_StuffedBodyIsCanonical :
    ∃ (m : Bytes) (i : Nat) (b : Byte), (bodyOf (stuffBytes m))[i]? = some b ∧ b = 0x7E :=
  ⟨[0x7D], 0, 0x7E, by decide⟩

theorem witness_DestuffRunsTheLoop :
    (∃ (s : State) (m : Bytes), ¬ Claims.BadDelimiters s.raw ∧ Claims.destuff s.raw = some m) ∧
    (∃ s : State, ¬ Claims.BadDelimiters s.raw ∧ Claims.destuff s.raw = none) ∧
    (∃ s : State, Claims.BadDelimiters s.raw) :=
  ⟨⟨{ State.reset with raw := [0x7D, 0x7D] }, [], by decide⟩,
    ⟨{ State.reset with raw := [0x7D, 0x7E, 0x7D] }, by decide⟩,
    ⟨{ State.reset with raw := [0x7D] }, by decide⟩⟩

theorem witness_UnpackSplitsMessage :
    (∃ (s : State) (c0 c1 a0 a1 len k0 k1 : Byte) (p : Bytes), p.length = len.toNat ∧
      s.msg = [c0, c1, a0, a1, len] ++ p ++ [k0, k1]) ∧
    (∃ s : State, s.msg.length < 7) ∧
    (∃ s : State, ¬ s.msg.length < 7 ∧ s.msg.length ≠ 7 + (s.msg.getD 4 0).toNat) :=
  ⟨⟨{ State.reset with msg := [0, 0, 0x0A, 0x0B, 0, 0xBA, 0x8B] }, 0, 0, 0x0A, 0x0B, 0, 0xBA, 0x8B, [],
      by decide⟩,
    ⟨{ State.reset with msg := [0, 0, 0x0A, 0x0B, 0, 0xBA] }, by decide⟩,
    ⟨{ State.reset with msg := [0, 0, 0x0A, 0x0B, 1, 0xBA, 0x8B] }, by decide⟩⟩

theorem witness_MessageOffsets :
    ∃ (len : Byte) (p : Bytes), p.length = len.toNat ∧ ∃ i, i < len.toNat :=
  ⟨1, [0x09], by decide, 0, by decide⟩

theorem witness_BodyBytesYield : ∃ b : Byte, b ≠ 0x7E ∧ b = 0x7D := ⟨0x7D, by decide⟩

theorem witness_DestuffIsTheRunOfItsBody :
    ∃ (s : State) (m : Bytes), ¬ Claims.BadDelimiters s.raw ∧ Claims.destuff s.raw = some m ∧
      m = [0x0A, 0x7D] :=
  ⟨{ State.reset with raw := [0x7D, 0x7E, 0x2A, 0x7D, 0x7D] }, _, by decide, rfl, by decide⟩

theorem witness_FrameCountIsLeast :
    (∃ L C k : Nat, L ≤ 255 ∧ 1 ≤ C ∧ C ≤ 119 ∧ 1 ≤ k ∧ L ≤ k * C ∧ L = 255 ∧ C = 1) ∧
    (∃ L C k : Nat, L ≤ 255 ∧ 1 ≤ C ∧ C ≤ 119 ∧ 1 ≤ k ∧ L ≤ k * C ∧ L = 0 ∧ C = 119) :=
  ⟨⟨255, 1, 255, by decide⟩, ⟨0, 119, 1, by decide⟩⟩

theorem witness_FragFillsFrame :
    (∃ s : State, s.pkt.length ≤ 255 ∧ s.fragIndex < Claims.numFrames s.pkt.length s.cfg.capacity - 1) ∧
    (∃ s : State, s.pkt.length ≤ 255 ∧
      s.fragIndex + 1 = Claims.numFrames s.pkt.length s.cfg.capacity ∧ s.pkt = []) :=
  ⟨⟨{ State.reset with pkt := [1, 2, 3, 4, 5, 6, 7, 8, 9] }, by decide⟩, ⟨State.reset, by decide⟩⟩

theorem witness_FragmentsRebuildPacket :
    (∃ (cfg : Cfg) (pkt : Bytes), pkt.length ≤ 255 ∧ 3 ≤ frameCount pkt.length cfg.capacity) ∧
    (∃ (cfg : Cfg) (pkt : Bytes), pkt.length ≤ 255 ∧ pkt.length = cfg.capacity) ∧
    (∃ (cfg : Cfg) (pkt : Bytes), pkt = [] ∧ pkt.length ≤ cfg.capacity) :=
  ⟨⟨{ localAddr := 0, capacity := 1 }, [1, 2, 3], by decide⟩,
    ⟨{ localAddr := 0, capacity := 2 }, [1, 2], by decide⟩, ⟨cfgA, [], by decide⟩⟩

theorem witness_FilterAcceptsOwnAndBroadcast :
    (∃ s : State, s.frame.addressing1 = s.cfg.localAddr) ∧ (∃ s : State, s.frame.addressing1 = 0xFF) ∧
    (∃ s : State, s.frame.addressing1 ≠ s.cfg.localAddr ∧ s.frame.addressing1 ≠ 0xFF) :=
  ⟨⟨holding false [] goodLast, rfl⟩, ⟨holding false [] (frameTo 0xFF 0 0 [] 0 0), rfl⟩,
    ⟨holding false [] (frameTo 0x0C 0 0 [] 0 0), by decide⟩⟩

theorem witness_GateQuarantinesFragments :
    (∃ s : State, s.error = true ∧ s.frame.control1 ≠ 0 ∧ s.frame.control0 ≠ s.frame.control1) ∧
    (∃ s : State, s.error = true ∧ s.frame.control1 ≠ 0 ∧ s.frame.control0 = s.frame.control1) ∧
    (∃ s : State, s.error = false ∧ s.frame.control1 ≠ 0) ∧
    (∃ s : State, s.error = true ∧ s.frame.control1 = 0) :=
  ⟨⟨holding true [] goodFirst, by decide⟩, ⟨holding true [] goodLast, by decide⟩,
    ⟨holding false [] goodFirst, by decide⟩, ⟨holding true [] goodSingle, by decide⟩⟩

theorem witness_ReasmActsByClass :
    (∃ s : State, s.frame.control1 = 0) ∧ (∃ s : State, s.frame.control1 ≠ 0 ∧ s.frame.control0 = 0) ∧
    (∃ s : State, s.frame.control1 ≠ 0 ∧ s.frame.control0 = s.frame.control1) ∧
    (∃ s : State, s.frame.control1 ≠ 0 ∧ s.frame.control0 ≠ 0 ∧ s.frame.control0 ≠ s.frame.control1) :=
  ⟨⟨holding false [] goodSingle, rfl⟩, ⟨holding false [] goodFirst, by decide⟩,
    ⟨holding false [] goodLast, by decide⟩, ⟨holding false [] goodMiddle, by decide⟩⟩

theorem witness_FirstStartsBuffer :
    ∃ (s : State) (c1 : Byte), c1 ≠ 0 ∧ s.frame.length.toNat = s.cfg.reasmMax :=
  ⟨{ State.resetWith cfgSmall with frame := goodLast }, 1, by decide⟩

theorem witness_MiddleAppendsLastDelivers :
    ∃ (s : State) (c0 c1 c : Byte), s.reasm.length + s.frame.length.toNat = s.cfg.reasmMax ∧
      (c1 ≠ 0 ∧ c0 ≠ 0 ∧ c0 ≠ c1) ∧ c ≠ 0 :=
  ⟨{ State.resetWith cfgSmall with frame := goodLast }, 1, 2, 1, by decide⟩

theorem witness_OverflowDropsFragment :
    (∃ (s : State) (c1 : Byte), c1 ≠ 0 ∧ s.frame.length.toNat = s.cfg.reasmMax + 1) ∧
    (∃ (s : State) (c0 c1 : Byte), c1 ≠ 0 ∧ c0 ≠ 0 ∧ c0 ≠ c1 ∧
      s.reasm.length + s.frame.length.toNat = s.cfg.reasmMax + 1) ∧
    (∃ (s : State) (c : Byte), c ≠ 0 ∧ s.reasm.length + s.frame.length.toNat = s.cfg.reasmMax + 1) :=
  ⟨⟨{ State.resetWith cfgSmall with frame := frameTo 0x0B 0 1 [1, 2] 0 0 }, 1, by decide⟩,
    ⟨{ State.resetWith cfgSmall with frame := goodMiddle, reasm := [1] }, 1, 2, by decide⟩,
    ⟨{ State.resetWith cfgSmall with frame := goodLast, reasm := [1] }, 1, by decide⟩⟩

theorem witness_IllFormedRowsRefused :
    (∃ c0 c1 : Byte, c1 = 0 ∧ c0 ≠ 0) ∧ (∃ c0 c1 : Byte, c1 ≠ 0 ∧ c0 = 0) ∧
    (∃ c0 c1 : Byte, c1 ≠ 0 ∧ c0 = c1) ∧ (∃ (len : Byte) (p : Bytes), p.length ≠ len.toNat) :=
  ⟨⟨1, 0, by decide⟩, ⟨0, 1, by decide⟩, ⟨1, 1, by decide⟩, ⟨1, [], by decide⟩⟩

theorem witness_AcceptRowsDeliverOrStore :
    (∃ s : State, s.frame.control1 = 0) ∧
    (∃ s : State, s.frame.control1 ≠ 0 ∧ s.frame.control0 = s.frame.control1 ∧
      s.reasm.length + s.frame.length.toNat = s.cfg.reasmMax) ∧
    (∃ s : State, s.frame.control1 ≠ 0 ∧ s.frame.control0 = 0 ∧ s.frame.length.toNat = s.cfg.reasmMax) ∧
    (∃ s : State, s.frame.control1 ≠ 0 ∧ s.frame.control0 ≠ 0 ∧ s.frame.control0 ≠ s.frame.control1 ∧
      s.reasm.length + s.frame.length.toNat = s.cfg.reasmMax) :=
  ⟨⟨holding false [] goodSingle, rfl⟩,
    ⟨{ State.resetWith cfgSmall with frame := goodLast }, by decide⟩,
    ⟨{ State.resetWith cfgSmall with frame := frameTo 0x0B 0 1 [7] 0 0 }, by decide⟩,
    ⟨{ State.resetWith cfgSmall with frame := goodMiddle }, by decide⟩⟩

theorem witness_SendEmitsItsFrames : ∃ pkt : Bytes, pkt.length = 255 := ⟨List.replicate 255 0, by decide +kernel⟩

theorem witness_SendFrameCountAndBytes :
    (∃ pkt : Bytes, pkt.length ≤ 255 ∧ pkt = []) ∧
    (∃ pkt : Bytes, pkt.length ≤ 255 ∧ Claims.numFrames pkt.length 8 = 2) :=
  ⟨⟨[], by decide⟩, ⟨[1, 2, 3, 4, 5, 6, 7, 8, 9], by decide⟩⟩

theorem witness_LongOperandsRefused :
    ∃ pkt raw : Bytes, pkt.length > 255 ∧ raw.length > 255 ∧ pkt.length = 256 :=
  ⟨List.replicate 256 0, List.replicate 256 0x7D, by decide +kernel⟩

theorem witness_RecvIsItsTransitionFunction : ∃ raw : Bytes, raw.length ≤ 255 ∧ raw.length = 255 :=
  ⟨List.replicate 255 0x7D, by decide +kernel⟩

theorem witness_RecvStatusIsStructural :
    (∃ raw : Bytes, raw.length ≤ 255 ∧ Claims.parse raw ≠ none ∧ raw.length = 9) ∧
    (∃ raw : Bytes, raw.length ≤ 255 ∧ ¬ Claims.BadDelimiters raw ∧ Claims.destuff raw = none) :=
  ⟨⟨rawOf (frameTo 0x0B 0 0 [] 0xBA 0x8B), by decide +kernel⟩, ⟨[0x7D, 0x7E, 0x7D], by decide⟩⟩

theorem witness_RecvFollowsErrorTable_untouched :
    (∃ raw : Bytes, raw.length ≤ 255 ∧ Claims.parse raw = none) ∧
    (∃ f : Frame, (rawOf f).length ≤ 255 ∧ Claims.parse (rawOf f) = some f ∧ ¬ Claims.Passes cfgB f) :=
  ⟨⟨[], by decide⟩, ⟨frameTo 0x0C 0 0 [0x99] 0x0D 0xA5, by decide +kernel⟩⟩

/-- A frame of every class, with a good and with a bad CRC, and one that overflows a buffer of one byte. -/
theorem witness_RecvFollowsErrorTable :
    (∀ f ∈ [goodSingle, badSingle, goodFirst, goodMiddle, badMiddle, goodLast, lastOfThree],
      (rawOf f).length ≤ 255 ∧ Claims.parse (rawOf f) = some f ∧ Claims.Passes cfgB f) ∧
    Claims.CrcGood 0x8005 goodSingle ∧ ¬ Claims.CrcGood 0x8005 badSingle ∧
    Claims.CrcGood 0x8005 goodFirst ∧ Claims.CrcGood 0x8005 goodMiddle ∧ ¬ Claims.CrcGood 0x8005 badMiddle ∧
    Claims.CrcGood 0x8005 goodLast ∧ Claims.CrcGood 0x8005 lastOfThree ∧
    goodFirst.netPacket.length > cfgSmall.reasmMax := by
  decide +kernel

theorem witness_RecvPriority :
    (∃ raw : Bytes, raw.length ≤ 255 ∧ Claims.parse raw = none) ∧
    (∃ (s : State) (f : Frame), (rawOf f).length ≤ 255 ∧ Claims.parse (rawOf f) = some f ∧
      ¬ Claims.Passes s.cfg f) ∧
    (∃ (s : State) (f : Frame), (rawOf f).length ≤ 255 ∧ Claims.parse (rawOf f) = some f ∧
      Claims.Passes s.cfg f ∧ s.error = true ∧ f.control1 ≠ 0) ∧
    (∃ (s : State) (f : Frame), (rawOf f).length ≤ 255 ∧ Claims.parse (rawOf f) = some f ∧
      Claims.Passes s.cfg f ∧ (s.error = false ∨ f.control1 = 0) ∧ ¬ Claims.CrcGood s.cfg.poly f) ∧
    (∃ (s : State) (f : Frame), (rawOf f).length ≤ 255 ∧ Claims.parse (rawOf f) = some f ∧
      Claims.Passes s.cfg f ∧ s.error = false ∧ f.control1 ≠ 0 ∧ Claims.CrcGood s.cfg.poly f ∧
      (if f.control0 = 0 then 0 else s.reasm.length) + f.length.toNat = s.cfg.reasmMax + 1) :=
  ⟨⟨[], by decide⟩, ⟨between false [], frameTo 0x0C 0 0 [0x99] 0x0D 0xA5, by decide +kernel⟩,
    ⟨between true [], badMiddle, by decide +kernel⟩, ⟨between true [], badSingle, by decide +kernel⟩,
    ⟨{ State.resetWith cfgSmall with reasm := [1] }, goodLast, by decide +kernel⟩⟩

theorem witness_RecvResultWord :
    (∃ raw : Bytes, raw.length ≤ 255 ∧ (Claims.recv cfgB false [] raw).disp = .malformed) ∧
    (∃ raw : Bytes, raw.length ≤ 255 ∧ (Claims.recv cfgB false [] raw).disp = .delivered) :=
  ⟨⟨[], by decide⟩, ⟨rawOf goodSingle, by decide +kernel⟩⟩

theorem witness_RecvDeliversExactlyWhenDelivered :
    ∃ (s t : State) (raw : Bytes), exec (.recv raw) s = .next t ∧ raw = rawOf goodSingle :=
  ⟨between false [], _, rawOf goodSingle, rfl, rfl⟩

theorem witness_DropsKeepReassemblyBuffer :
    nextHas (exec (.recv [0x7D]) (between false [1]))
      (fun t => decide (t.result = .recv false .malformed)) = true ∧
    nextHas (exec (.recv (rawOf (frameTo 0x0C 0 0 [] 0 0))) (between false [1]))
      (fun t => decide (t.result = .recv true .dropAddr)) = true ∧
    nextHas (exec (.recv (rawOf goodFirst)) (between true [1]))
      (fun t => decide (t.result = .recv true .dropQuarantine)) = true ∧
    nextHas (exec (.recv (rawOf badSingle)) (between false [1]))
      (fun t => decide (t.result = .recv true .dropCrc)) = true ∧
    nextHas (exec (.recv (rawOf goodFirst)) { State.resetWith cfgSmall with reasm := [1] })
      (fun t => decide (t.result = .recv true .dropOverflow)) = true := by
  decide +kernel

theorem witness_ErrorClearedInTwoWaysOnly :
    (State.HostOnly { between true [1] with inbox := [.cmd 0b11 [] 0] } ∧
      nextHas (step { between true [1] with inbox := [.cmd 0b11 [] 0] }) (fun t => !t.error) = true) ∧
    State.HostOnly { between true [1] with inbox := [.cmd 0b10 (rawOf goodLast) 0] } ∧
      nextHas (step { between true [1] with inbox := [.cmd 0b10 (rawOf goodLast) 0] })
        (fun t => !t.error) = true ∧
      (rawOf goodLast).length ≤ 255 ∧ Claims.parse (rawOf goodLast) = some goodLast ∧
      Claims.Passes cfgB goodLast ∧ Claims.IsLast goodLast := by
  decide +kernel

theorem witness_TransientsAreNeverReadFirst :
    ∃ (s t : State) (i : Instr), s.cfg = t.cfg ∧ s.error = t.error ∧ s.reasm = t.reasm ∧
      s.events = t.events ∧ i.format = .cmd ∧ i.wellFormed = true ∧ s.frame ≠ t.frame ∧ s.crc ≠ t.crc :=
  ⟨between true [1], { holding true [1] goodLast with crc := 7 }, .recv [0x7D], by decide⟩

theorem witness_RecvIgnoresCapacity :
    ∃ (s : State) (cfg : Cfg) (raw : Bytes), raw.length ≤ 255 ∧ cfg.localAddr = s.cfg.localAddr ∧
      cfg.poly = s.cfg.poly ∧ cfg.reasmMax = s.cfg.reasmMax ∧ cfg.capacity ≠ s.cfg.capacity :=
  ⟨between false [], { localAddr := 0x0B, capacity := 1 }, [], by decide⟩

theorem witness_SentPacketIsDeliveredOnce :
    (∃ (a b : State) (P : Bytes) (d : Byte), P.length ≤ 255 ∧ a.cfg.poly = b.cfg.poly ∧
      P.length ≤ b.cfg.reasmMax ∧ b.error = false ∧ d = b.cfg.localAddr ∧
      2 ≤ Claims.numFrames P.length a.cfg.capacity) ∧
    (∃ (a b : State) (P : Bytes) (d : Byte), P.length ≤ 255 ∧ a.cfg.poly = b.cfg.poly ∧
      P.length ≤ b.cfg.reasmMax ∧ b.error = false ∧ d = 0xFF ∧ P = []) :=
  ⟨⟨State.resetWith cfgA, between false [7], List.replicate 255 0x7E, 0x0B, by decide +kernel⟩,
    ⟨State.resetWith cfgA, State.resetWith cfgSmall, [], 0xFF, by decide⟩⟩

/-- Program P2: the second fragment of three is corrupted. -/
theorem witness_CorruptedFragmentQuarantinesItsPacket :
    ∃ (s : State) (bad last : Bytes) (mids : List Bytes) (f l : Frame) (a : State) (P : Bytes),
      s.error = false ∧ (∀ r ∈ bad :: last :: mids, r.length ≤ 255) ∧
      Claims.parse bad = some f ∧ Claims.Passes s.cfg f ∧ Claims.NotLast f ∧ ¬ Claims.CrcGood s.cfg.poly f ∧
      mids ≠ [] ∧
      (∀ r ∈ mids, ∃ g, Claims.parse r = some g ∧ Claims.Passes s.cfg g ∧ Claims.NotLast g) ∧
      Claims.parse last = some l ∧ Claims.Passes s.cfg l ∧ Claims.IsLast l ∧
      P.length ≤ 255 ∧ P.length ≤ s.cfg.reasmMax ∧ a.cfg.poly = s.cfg.poly := by
  refine ⟨between false [0x10, 0x11], rawOf badMiddle, rawOf lastOfThree, [rawOf goodMiddle], badMiddle, lastOfThree,
    State.resetWith cfgA, [1, 2, 3], rfl, by decide +kernel, by decide +kernel, by decide, by decide,
    by decide +kernel, by decide, ?_, by decide +kernel, by decide, by decide, by decide, by decide, rfl⟩
  intro r hr
  obtain rfl := List.mem_singleton.mp hr
  exact ⟨goodMiddle, by decide +kernel, by decide, by decide⟩

end Sys2Proof.Tests
end

/-! SUPPORT. Proofs of the statements about the state (10_state.md): the rules each operation keeps, RECV as the
transition function of rule R195, the frames of a SEND, and the settled obligations of the family. -/

namespace Sys2Proof.Machine

/-! ### The encoder's right inverse -/

/-- UNPACK and the decoder read a message alike (rules R72, R128). -/
theorem decodeMsg_of_unpackMessage {m : Bytes} {f : Frame} (h : unpackMessage m = some f) :
    decodeMsg m = .ok (.msg f.control0 f.control1 f.addressing0 f.addressing1 f.length f.netPacket
      f.checksum0 f.checksum1) := by
  unfold unpackMessage at h
  split at h
  · cases h
  · split at h
    · cases h
    · rename_i hshort hlen
      obtain rfl := Option.some.inj h
      simp only [decodeMsg, if_neg hshort, if_neg hlen]

theorem decodeCtrl_eq_first {c1 : Byte} (h : c1 ≠ 0) : decodeCtrl 0 c1 = .first c1 := by
  simp only [decodeCtrl, (frameClass_first_iff 0 c1).mpr ⟨h, rfl⟩]

theorem decodeCtrl_eq_last {c : Byte} (h : c ≠ 0) : decodeCtrl c c = .last c := by
  simp only [decodeCtrl, (frameClass_last_iff c c).mpr ⟨h, rfl⟩]

theorem decodeCtrl_eq_middle {c0 c1 : Byte} (h : c1 ≠ 0 ∧ c0 ≠ 0 ∧ c0 ≠ c1) :
    decodeCtrl c0 c1 = .middle c0 c1 := by
  simp only [decodeCtrl, (frameClass_middle_iff c0 c1).mpr h]

theorem decode_encode {i : Instr} (h : i.wellFormed = true) : decode (encode i) = .ok i := by
  cases i with
  | send pkt dst => simpa [encode, decode, decodeCmd, Instr.wellFormed] using h
  | recv raw => simpa [encode, decode, decodeCmd, Instr.wellFormed] using h
  | msg c0 c1 src dst len payload ck0 ck1 =>
    exact decodeMsg_of_unpackMessage
      (unpackMessage_fields c0 c1 src dst len ck0 ck1 payload (of_decide_eq_true h))
  | escAny x =>
    obtain ⟨hflag, hesc⟩ := of_decide_eq_true h
    have hmark : (0x7E : Byte) = escByte := rfl
    simp [encode, decode, decodeBody, hmark, hflag, hesc]
  | lit b =>
    have hb : b ≠ escByte := of_decide_eq_true h
    simp [encode, decode, decodeBody, hb]
  | first c1 => exact congrArg Except.ok (decodeCtrl_eq_first (of_decide_eq_true h))
  | last c => exact congrArg Except.ok (decodeCtrl_eq_last (of_decide_eq_true h))
  | middle c0 c1 => exact congrArg Except.ok (decodeCtrl_eq_middle (of_decide_eq_true h))
  | _ => rfl

/-! ### The step -/

theorem step_nil {s : State} (h : s.inbox = []) : step s = .next s := by
  simp only [step, h]

theorem step_cons {s : State} {t : Transaction} {rest : List Transaction} {i : Instr}
    (hin : s.inbox = t :: rest) (hdec : decode t = .ok i) : step s = exec i { s with inbox := rest } := by
  simp only [step, hin, hdec]

/-- A step that goes on took nothing, or ran the instruction at the head of the inbox. -/
theorem step_cases {s t : State} (h : step s = .next t) :
    (s.inbox = [] ∧ t = s) ∨
    ∃ tr rest i, s.inbox = tr :: rest ∧ decode tr = .ok i ∧ exec i { s with inbox := rest } = .next t := by
  cases hin : s.inbox with
  | nil =>
    rw [step_nil hin] at h
    exact .inl ⟨rfl, (Host.Outcome.next.inj h).symm⟩
  | cons tr rest =>
    cases hdec : decode tr with
    | ok i => exact .inr ⟨tr, rest, i, rfl, hdec, step_cons hin hdec ▸ h⟩
    | error why => simp [step, hin, hdec] at h

/-! ### Operations that end a RECV end with one disposition -/

/-- A tested ending is an ending with some disposition, and BUFFERED finds room (rule R176). -/
theorem disposeTested_eq_dispose (d : Disposition) (s : State) :
    ∃ d', disposeTested d s = dispose d' s ∧ (d' = .buffered → overflows s = false) := by
  obtain ⟨-, h⟩ | ⟨hroom, h⟩ := disposeTested_cases d s
  · exact ⟨.dropOverflow, h, nofun⟩
  · exact ⟨d, h, fun _ => hroom⟩

theorem reasmOp_eq_dispose (s : State) :
    ∃ d, reasmOp s = dispose d s ∧ (d = .buffered → overflows s = false) := by
  obtain ⟨-, h⟩ | ⟨-, -, h⟩ | ⟨-, -, h⟩ | ⟨-, hroom, h⟩ := reasmOp_cases s
  · exact ⟨.delivered, h, nofun⟩
  · exact ⟨.dropOverflow, h, nofun⟩
  · exact ⟨.delivered, h, nofun⟩
  · exact ⟨.buffered, h, fun _ => hroom⟩

/-! ### RECV, stage by stage -/

/-- Stages 2 to 5 of RECV on the frame in the registers (rules R195, R197). -/
def judgeFrame (u : State) : State :=
  if accepts u.cfg u.frame then
    if gated u.error u.frame then dispose .dropQuarantine u
    else if (crcChkOp u).crcOk then reasmOp (crcChkOp u)
    else dispose .dropCrc (crcChkOp u)
  else dispose .dropAddr u

/-- The message buffer and the scan index are released with the rest, so what they held is gone. -/
theorem judgeFrame_takeMessage (f : Frame) (m : Bytes) (s : State) :
    judgeFrame (takeFrame f (takeMessage m s)) = judgeFrame (takeFrame f s) := rfl


/-! ### Stage 1 of RECV against the spec's pseudocode (rules R125, R128, R131) -/

/-- The loop of rule R125 from index `j` destuffs what is left of the body behind what it has put out. -/
theorem destuffLoop_eq (body : Bytes) (fuel j : Nat) (out : Bytes) (hfuel : body.length < fuel + j) :
    Claims.destuffLoop body fuel j out = (destuffBody (body.drop j)).map (out ++ ·) := by
  induction fuel generalizing j out with
  | zero => simp [Claims.destuffLoop, List.drop_eq_nil_of_le (show body.length ≤ j by omega), destuffBody]
  | succ fuel ih =>
    have hmark : (0x7E : Byte) = escByte := rfl
    rw [Claims.destuffLoop, hmark]
    by_cases hj : j < body.length
    · have hhead : body.drop j = body.getD j 0 :: body.drop (j + 1) := by simp [hj]
      rw [if_pos hj, hhead]
      by_cases hesc : body.getD j 0 = escByte
      · rw [if_pos hesc, hesc]
        by_cases hend : body.length ≤ j + 1
        · rw [if_pos hend, List.drop_eq_nil_of_le hend]
          simp [destuffBody]
        · have hnext : body.drop (j + 1) = body.getD (j + 1) 0 :: body.drop (j + 2) := by
            simp [Nat.lt_of_not_le hend]
          rw [if_neg hend, hnext, destuffBody_esc, ih (j + 2) _ (by omega)]
          simp [Function.comp_def, unescape, escMask]
      · rw [if_neg hesc, destuffBody_lit hesc, ih (j + 1) _ (by omega)]
        simp [Function.comp_def]
    · rw [if_neg hj, List.drop_eq_nil_of_le (Nat.le_of_not_lt hj)]
      simp [destuffBody]

theorem destuff_eq (f : Bytes) : Claims.destuff f = destuffBody (bodyOf f) := by
  simp [Claims.destuff, destuffLoop_eq, bodyOf, slice, Nat.sub_sub]

theorem delimited_eq_false_iff (f : Bytes) : delimited f = false ↔ Claims.BadDelimiters f := by
  simp only [delimited, decide_eq_false_iff_not, not_and_or, not_le]
  rfl

theorem unpackMessage_eq (m : Bytes) :
    unpackMessage m = if Claims.BadMessage m then none else some (Claims.unpackFields m) := by
  unfold unpackMessage
  by_cases hshort : m.length < 7
  · simp [hshort]
  · by_cases hlen : m.length = 7 + (byteAt m 4).toNat
    · have hgood : ¬ Claims.BadMessage m := not_or.mpr ⟨hshort, not_not.mpr hlen⟩
      rw [if_neg hshort, if_neg (not_not.mpr hlen), if_neg hgood]
      simp only [slice, Nat.add_sub_cancel_left]
      rfl
    · have hbad : Claims.BadMessage m := .inr hlen
      rw [if_neg hshort, if_pos hlen, if_pos hbad]

theorem parse_of_badDelimiters {raw : Bytes} (h : delimited raw = false) : Claims.parse raw = none := by
  rw [Claims.parse, if_pos ((delimited_eq_false_iff raw).mp h)]

/-- Between its delimiters a raw buffer parses by DESTUFF and then UNPACK. -/
theorem parse_of_delimited {raw : Bytes} (h : delimited raw = true) :
    Claims.parse raw = (destuffBody (bodyOf raw)).bind unpackMessage := by
  have hgood : ¬ Claims.BadDelimiters raw := by simp [← delimited_eq_false_iff, h]
  rw [Claims.parse, if_neg hgood, destuff_eq]
  cases destuffBody (bodyOf raw) with
  | none => rfl
  | some m => exact (unpackMessage_eq m).symm

/-- What parses has a payload of the declared length (rule R39). -/
theorem parse_length {raw : Bytes} {f : Frame} (h : Claims.parse raw = some f) :
    f.length.toNat = f.netPacket.length := by
  cases hd : delimited raw with
  | false => simp [parse_of_badDelimiters hd] at h
  | true =>
    rw [parse_of_delimited hd] at h
    obtain ⟨m, -, hm⟩ := Option.bind_eq_some_iff.mp h
    exact unpackMessage_length hm

theorem recvStages_of_parse_none {s : State} (h : Claims.parse s.raw = none) :
    recvStages s = dispose .malformed s := by
  obtain ⟨hr, -⟩ | ⟨m, hd, hb, ⟨-, hr⟩ | ⟨f, hu, -⟩⟩ := recvStages_cases s
  · exact hr
  · exact hr
  · simp [parse_of_delimited hd, hb, hu] at h

theorem recvStages_of_parse_some {s : State} {f : Frame} (h : Claims.parse s.raw = some f) :
    recvStages s = judgeFrame (takeFrame f s) := by
  obtain ⟨-, hbad⟩ | ⟨m, hd, hb, hrest⟩ := recvStages_cases s
  · cases hd : delimited s.raw with
    | false => simp [parse_of_badDelimiters hd] at h
    | true => simp [parse_of_delimited hd, hbad.resolve_left (by simp [hd])] at h
  · have hum : unpackMessage m = some f := by simpa [parse_of_delimited hd, hb] using h
    rw [← judgeFrame_takeMessage f m s]
    obtain ⟨hu, -⟩ | ⟨g, hu, hrest⟩ := hrest
    · simp [hum] at hu
    · obtain rfl : f = g := Option.some.inj (hum.symm.trans hu)
      obtain ⟨ha, hr⟩ | ⟨ha, hg, hr⟩ | ⟨ha, hg, hc, hr⟩ | ⟨ha, hg, hc, hr⟩ := hrest
      · simp [judgeFrame, hr, ha]
      · simp [judgeFrame, hr, ha, hg]
      · simp [-crcChkOp_crcOk, judgeFrame, hr, ha, hg, hc]
      · simp [-crcChkOp_crcOk, judgeFrame, hr, ha, hg, hc]

/-! ### What RECV makes of the persistent state (rule R195) -/

/-- `t` is what `o` says a RECV leaves, after the events `past`. -/
structure RecvLeaves (o : Claims.RecvOut) (past : List Event) (t : State) : Prop where
  error : t.error = o.error
  reasm : t.reasm = o.reasm
  events : t.events = past ++ o.events
  result : t.result = .recv o.status o.disp

theorem frameClass_ne_single_iff (f : Frame) : f.frameClass ≠ .single ↔ f.control1 ≠ 0 :=
  not_congr (frameClass_single_iff f.control0 f.control1)

theorem accepts_eq_false_iff (cfg : Cfg) (f : Frame) :
    accepts cfg f = false ↔ f.addressing1 ≠ cfg.localAddr ∧ f.addressing1 ≠ 0xFF := by
  simp only [accepts, decide_eq_false_iff_not, not_or]
  rfl

theorem gated_eq_true_iff (e : Bool) (f : Frame) : gated e f = true ↔ e = true ∧ f.control1 ≠ 0 := by
  simp [gated]

/-- CRC.CHK is the test of rule R106 on the frame in the registers. -/
theorem crcOk_eq_true_iff (s : State) : (crcChkOp s).crcOk = true ↔ Claims.CrcGood s.cfg.poly s.frame := by
  simp only [crcChkOp_crcOk, Bool.and_eq_true, decide_eq_true_eq]
  rfl

/-- What rule R195's pseudocode, `Claims.recv`, gives for a frame that passed every check (stage 5). -/
def acceptFrame (cfg : Cfg) (error : Bool) (reasm : Bytes) (f : Frame) : Claims.RecvOut :=
  if f.control1 = 0 then ⟨error, reasm, [.deliver f.netPacket f.addressing0], true, .delivered⟩
  else
    let base := if f.control0 = 0 then [] else reasm
    if base.length + f.length.toNat > cfg.reasmMax then
      ⟨if f.control0 ≠ f.control1 then true else error, [], [], true, .dropOverflow⟩
    else if f.control0 = f.control1 then
      ⟨error, [], [.deliver (base ++ f.netPacket) f.addressing0], true, .delivered⟩
    else ⟨error, base ++ f.netPacket, [], true, .buffered⟩

theorem reasmOp_leaves (u : State) :
    RecvLeaves (acceptFrame u.cfg u.error u.reasm u.frame) u.events (reasmOp u) := by
  have hroom := overflows_eq_false_iff u
  unfold reasmBase at hroom
  obtain ⟨hcls, h⟩ | ⟨hcls, hover, h⟩ | ⟨hcls, hfits, h⟩ | ⟨hcls, hfits, h⟩ := reasmOp_cases u
  · have h1 : u.frame.control1 = 0 := (frameClass_single_iff _ _).mp hcls
    rw [h, acceptFrame, if_pos h1, dispose_delivered_single u hcls]
    exact ⟨rfl, rfl, rfl, rfl⟩
  · have h1 : u.frame.control1 ≠ 0 := (frameClass_ne_single_iff _).mp hcls
    have hlast : u.frame.frameClass = .last ↔ u.frame.control0 = u.frame.control1 :=
      (frameClass_last_iff _ _).trans (and_iff_right h1)
    have hfull := mt hroom.mpr (by simp [hover])
    rw [h, acceptFrame, if_neg h1]
    simp only
    rw [if_pos (Nat.lt_of_not_le hfull)]
    refine ⟨?_, rfl, (List.append_nil _).symm, rfl⟩
    by_cases hc : u.frame.control0 = u.frame.control1 <;> simp [errorAfterOverflow, hlast, hc]
  · obtain ⟨h1, hc⟩ := (frameClass_last_iff _ _).mp hcls
    rw [h, acceptFrame, if_neg h1, dispose_delivered_fragment u (by simp [hcls])]
    simp only
    rw [if_neg (Nat.not_lt.mpr (hroom.mp hfits)), if_pos hc]
    exact ⟨rfl, rfl, rfl, rfl⟩
  · have h1 : u.frame.control1 ≠ 0 ∧ u.frame.control0 ≠ u.frame.control1 := by
      obtain hcls | hcls := hcls
      · obtain ⟨h1, h0⟩ := (frameClass_first_iff _ _).mp hcls
        exact ⟨h1, h0 ▸ h1.symm⟩
      · obtain ⟨h1, -, hc⟩ := (frameClass_middle_iff _ _).mp hcls
        exact ⟨h1, hc⟩
    rw [h, acceptFrame, if_neg h1.1, dispose_buffered]
    simp only
    rw [if_neg (Nat.not_lt.mpr (hroom.mp hfits)), if_neg h1.2]
    exact ⟨rfl, rfl, (List.append_nil _).symm, rfl⟩

/-- Stages 2 to 5 of RECV, for a frame that parsed. -/
theorem judgeFrame_leaves {s : State} {raw : Bytes} {f : Frame} (h : Claims.parse raw = some f) :
    RecvLeaves (Claims.recv s.cfg s.error s.reasm raw) s.events (judgeFrame (takeFrame f s)) := by
  rw [Claims.recv, h]
  simp only
  by_cases hp : f.addressing1 ≠ s.cfg.localAddr ∧ f.addressing1 ≠ 0xFF
  · have ha : accepts s.cfg f = false := (accepts_eq_false_iff _ _).mpr hp
    rw [if_pos hp, judgeFrame, if_neg (by simp [ha])]
    exact ⟨rfl, rfl, (List.append_nil _).symm, rfl⟩
  have ha : accepts s.cfg f = true := Bool.eq_true_of_not_eq_false (mt (accepts_eq_false_iff _ _).mp hp)
  rw [if_neg hp, judgeFrame, takeFrame_cfg, takeFrame_frame, takeFrame_error, if_pos ha]
  by_cases hq : s.error = true ∧ f.control1 ≠ 0
  · have hlast : f.frameClass = .last ↔ f.control0 = f.control1 :=
      (frameClass_last_iff _ _).trans (and_iff_right hq.2)
    rw [if_pos hq, if_pos ((gated_eq_true_iff _ _).mpr hq)]
    exact ⟨by simp [errorAfterQuarantine, hlast], rfl, (List.append_nil _).symm, rfl⟩
  rw [if_neg hq, if_neg (mt (gated_eq_true_iff _ _).mp hq)]
  by_cases hc : Claims.CrcGood s.cfg.poly f
  · rw [if_neg (not_not.mpr hc), if_pos ((crcOk_eq_true_iff (takeFrame f s)).mpr hc)]
    exact reasmOp_leaves (crcChkOp (takeFrame f s))
  · rw [if_pos hc, if_neg (mt (crcOk_eq_true_iff (takeFrame f s)).mp hc)]
    exact ⟨rfl, rfl, (List.append_nil _).symm, rfl⟩

theorem recvStages_leaves (s : State) :
    RecvLeaves (Claims.recv s.cfg s.error s.reasm s.raw) s.events (recvStages s) := by
  cases h : Claims.parse s.raw with
  | none =>
    rw [recvStages_of_parse_none h, Claims.recv, h]
    exact ⟨rfl, rfl, (List.append_nil _).symm, rfl⟩
  | some f =>
    rw [recvStages_of_parse_some h]
    exact judgeFrame_leaves h

theorem exec_recv {raw : Bytes} (h : raw.length ≤ 255) (s : State) :
    exec (.recv raw) s = .next (recvStages (loadRecv raw s)) := if_pos h

/-- RECV is the transition function of rule R195 on `error`, `reasm`, the events and the result. -/
theorem exec_recv_leaves {raw : Bytes} (h : raw.length ≤ 255) (s : State) :
    ∃ t, exec (.recv raw) s = .next t ∧
      RecvLeaves (Claims.recv s.cfg s.error s.reasm raw) s.events t :=
  ⟨_, exec_recv h s, recvStages_leaves (loadRecv raw s)⟩

/-! ### The invariant (rules R22, R39, R204) -/

/-- `t` has the invariant and the configuration of `s`. -/
abbrev State.Keeps (s t : State) : Prop := t.Inv ∧ t.cfg = s.cfg

/-- Every next state of the outcome has the invariant and the configuration of `s`. -/
def OutcomeKeeps (s : State) (o : Host.Outcome State Fault Refusal) : Prop :=
  ∀ t, o = .next t → s.Keeps t

theorem outcomeKeeps_next {s t : State} (h : s.Keeps t) : OutcomeKeeps s (.next t) := by
  rintro _ ⟨⟩
  exact h

theorem outcomeKeeps_ite {s t : State} {p : Prop} [Decidable p] {r : Refusal} (h : s.Keeps t) :
    OutcomeKeeps s (if p then .next t else .refused r) := by
  split
  · exact outcomeKeeps_next h
  · exact nofun

/-- What leaves `cfg`, `reasm`, `length` and `net_packet` alone keeps the invariant. -/
theorem State.Inv.keeps_of_eq {s t : State} (h : s.Inv) (hcfg : t.cfg = s.cfg) (hreasm : t.reasm = s.reasm)
    (hlen : t.frame.length = s.frame.length) (hpkt : t.frame.netPacket = s.frame.netPacket) :
    s.Keeps t := by
  simp only [State.Keeps, State.Inv, hcfg, hreasm, hlen, hpkt]
  exact ⟨h, trivial⟩

theorem State.Inv.keeps_self {s : State} (h : s.Inv) : s.Keeps s := ⟨h, rfl⟩

/-- A released frame is empty, so only the buffer bound is left of the invariant. -/
theorem release_inv {s : State} (h : s.reasm.length ≤ s.cfg.reasmMax) : (release s).Inv := ⟨h, rfl⟩

theorem reasmAppended_length_le {s : State} (h : s.Inv) (hroom : overflows s = false) :
    (reasmAppended s).length ≤ s.cfg.reasmMax := by
  have hfits := (overflows_eq_false_iff s).mp hroom
  rwa [h.2, ← List.length_append] at hfits

theorem dispose_keeps {s : State} (d : Disposition) (h : s.Inv) (hd : d = .buffered → overflows s = false) :
    s.Keeps (dispose d s) := by
  refine ⟨?_, dispose_cfg d s⟩
  cases d with
  | delivered =>
    by_cases hcls : s.frame.frameClass = .single
    · rw [dispose_delivered_single s hcls]
      exact release_inv h.1
    · rw [dispose_delivered_fragment s hcls]
      exact release_inv (Nat.zero_le _)
  | buffered => exact release_inv (reasmAppended_length_le h (hd rfl))
  | dropOverflow => exact release_inv (Nat.zero_le _)
  | dropAddr | dropQuarantine | dropCrc | malformed => exact release_inv h.1

theorem disposeTested_keeps {s : State} (d : Disposition) (h : s.Inv) : s.Keeps (disposeTested d s) := by
  obtain ⟨d', heq, hroom⟩ := disposeTested_eq_dispose d s
  exact heq ▸ dispose_keeps d' h hroom

theorem reasmOp_keeps {s : State} (h : s.Inv) : s.Keeps (reasmOp s) := by
  obtain ⟨d, heq, hroom⟩ := reasmOp_eq_dispose s
  exact heq ▸ dispose_keeps d h hroom

theorem destuffStage_finish_keeps {s : State} (h : s.Inv) : s.Keeps (destuffStage s).finish := by
  unfold destuffStage
  split
  · split
    · exact h.keeps_of_eq rfl rfl rfl rfl
    · exact dispose_keeps .malformed h nofun
  · exact dispose_keeps .malformed h nofun

theorem unpackStage_finish_keeps {s : State} (h : s.Inv) : s.Keeps (unpackStage s).finish := by
  unfold unpackStage
  split
  next f hf => exact ⟨⟨h.1, unpackMessage_length hf⟩, rfl⟩
  · exact dispose_keeps .malformed h nofun

theorem filterStage_finish_keeps {s : State} (h : s.Inv) : s.Keeps (filterStage s).finish := by
  unfold filterStage
  split
  · exact h.keeps_self
  · exact dispose_keeps .dropAddr h nofun

theorem gateStage_finish_keeps {s : State} (h : s.Inv) : s.Keeps (gateStage s).finish := by
  unfold gateStage
  split
  · exact dispose_keeps .dropQuarantine h nofun
  · exact h.keeps_self

theorem judgeFrame_keeps {u : State} (h : u.Inv) : u.Keeps (judgeFrame u) := by
  unfold judgeFrame
  split
  · split
    · exact dispose_keeps .dropQuarantine h nofun
    · split
      · exact reasmOp_keeps (s := crcChkOp u) h
      · exact dispose_keeps (s := crcChkOp u) .dropCrc h nofun
  · exact dispose_keeps .dropAddr h nofun

theorem recvStages_keeps {s : State} (h : s.Inv) : s.Keeps (recvStages s) := by
  cases hp : Claims.parse s.raw with
  | none => exact recvStages_of_parse_none hp ▸ dispose_keeps .malformed h nofun
  | some f => exact recvStages_of_parse_some hp ▸ judgeFrame_keeps ⟨h.1, parse_length hp⟩

/-! ### SEND's loop (rules R190, R193) -/

/-- Frame `i` of a packet with its checksum (rules R105, R151, R152). -/
def sealedFrame (cfg : Cfg) (pkt : Bytes) (dst : Byte) (i : Nat) : Frame :=
  let f := fragFrame cfg pkt dst (frameCount pkt.length cfg.capacity) i Frame.default
  let crc := crc16 cfg.poly (protectedBytes f)
  { f with checksum0 := hiByte crc, checksum1 := loByte crc }

@[simp] theorem sendFrame_cfg (s : State) (i : Nat) : (sendFrame s i).cfg = s.cfg := by simp [sendFrame]
@[simp] theorem sendFrame_error (s : State) (i : Nat) : (sendFrame s i).error = s.error := by
  simp [sendFrame]
@[simp] theorem sendFrame_reasm (s : State) (i : Nat) : (sendFrame s i).reasm = s.reasm := by
  simp [sendFrame]
@[simp] theorem sendFrame_pkt (s : State) (i : Nat) : (sendFrame s i).pkt = s.pkt := by simp [sendFrame]
@[simp] theorem sendFrame_dst (s : State) (i : Nat) : (sendFrame s i).dst = s.dst := by simp [sendFrame]
@[simp] theorem sendFrame_inbox (s : State) (i : Nat) : (sendFrame s i).inbox = s.inbox := by
  simp [sendFrame]

/-- CRC.GEN writes both checksum bytes that FRAG leaves, so nothing of the old frame is left. -/
theorem crcGenOp_fragOp_frame (s : State) :
    (crcGenOp (fragOp s)).frame = sealedFrame s.cfg s.pkt s.dst s.fragIndex := by
  rw [crcGenOp_frame, fragOp_frame, fragOp_cfg]
  rfl

/-- A turn of the loop emits one frame, which nothing but `cfg` and the operands goes into. -/
theorem sendFrame_events (s : State) (i : Nat) :
    (sendFrame s i).events =
      s.events ++ [.tx (stuffBytes (packMessage (sealedFrame s.cfg s.pkt s.dst i)))] := by
  simp [-crcGenOp_frame, sendFrame, crcGenOp_fragOp_frame]

/-- A field that no turn of the loop writes is kept by the loop. -/
theorem sendFrames_keeps {α : Type} (field : State → α)
    (hturn : ∀ s i, field (sendFrame s i) = field s) (s : State) : field (sendFrames s) = field s :=
  List.foldlRecOn (motive := fun t => field t = field s) _ _ rfl fun t ht i _ => (hturn t i).trans ht

@[simp] theorem sendFrames_cfg (s : State) : (sendFrames s).cfg = s.cfg :=
  sendFrames_keeps State.cfg sendFrame_cfg s
@[simp] theorem sendFrames_error (s : State) : (sendFrames s).error = s.error :=
  sendFrames_keeps State.error sendFrame_error s
@[simp] theorem sendFrames_reasm (s : State) : (sendFrames s).reasm = s.reasm :=
  sendFrames_keeps State.reasm sendFrame_reasm s
@[simp] theorem sendFrames_inbox (s : State) : (sendFrames s).inbox = s.inbox :=
  sendFrames_keeps State.inbox sendFrame_inbox s

theorem foldl_sendFrame_events (is : List Nat) (s : State) :
    (is.foldl sendFrame s).events =
      s.events ++ is.map fun i => .tx (stuffBytes (packMessage (sealedFrame s.cfg s.pkt s.dst i))) := by
  induction is generalizing s with
  | nil => simp
  | cons i is ih =>
    simp [ih, sendFrame_events]

theorem sendFrames_events (s : State) :
    (sendFrames s).events = s.events ++ (List.range (frameCount s.pkt.length s.cfg.capacity)).map fun i =>
      .tx (stuffBytes (packMessage (sealedFrame s.cfg s.pkt s.dst i))) :=
  foldl_sendFrame_events _ s

theorem exec_send {pkt : Bytes} (h : pkt.length ≤ 255) (dst : Byte) (s : State) :
    exec (.send pkt dst) s =
      .next { release (sendFrames (loadSend pkt dst s)) with result := .send true } := if_pos h

theorem execSend_keeps {s : State} (pkt : Bytes) (dst : Byte) (h : s.Inv) :
    OutcomeKeeps s (execSend pkt dst s) := by
  have hinv : (release (sendFrames (loadSend pkt dst s))).Inv := release_inv (by simpa using h.1)
  exact outcomeKeeps_ite ⟨hinv, sendFrames_cfg (loadSend pkt dst s)⟩

/-- Every row of the table keeps the invariant and the configuration. -/
theorem exec_keeps (i : Instr) {s : State} (h : s.Inv) : OutcomeKeeps s (exec i s) := by
  cases i with
  | send pkt dst => exact execSend_keeps pkt dst h
  | recv raw => exact outcomeKeeps_ite (recvStages_keeps (s := loadRecv raw s) h)
  | reset => exact outcomeKeeps_next ⟨release_inv (Nat.zero_le _), rfl⟩
  | destuff => exact outcomeKeeps_next (destuffStage_finish_keeps h)
  | unpack => exact outcomeKeeps_next (unpackStage_finish_keeps h)
  | frag => exact outcomeKeeps_next ⟨⟨h.1, fragFrame_length s.cfg s.pkt s.dst s.fragIndex s.frame⟩, rfl⟩
  | filter => exact outcomeKeeps_next (filterStage_finish_keeps h)
  | gate => exact outcomeKeeps_next (gateStage_finish_keeps h)
  | reasm => exact outcomeKeeps_next (reasmOp_keeps h)
  | single c0 => exact outcomeKeeps_next (reasmOp_keeps (s := setControl c0 0 s) h)
  | first c1 => exact outcomeKeeps_ite (reasmOp_keeps (s := setControl 0 c1 s) h)
  | last c => exact outcomeKeeps_ite (reasmOp_keeps (s := setControl c c s) h)
  | middle c0 c1 => exact outcomeKeeps_ite (reasmOp_keeps (s := setControl c0 c1 s) h)
  | delivered =>
    change OutcomeKeeps s (execDelivered s)
    unfold execDelivered
    split
    · exact outcomeKeeps_next (dispose_keeps .delivered h nofun)
    · exact outcomeKeeps_next (disposeTested_keeps .delivered h)
  | buffered => exact outcomeKeeps_next (disposeTested_keeps .buffered h)
  | dropAddr => exact outcomeKeeps_next (dispose_keeps .dropAddr h nofun)
  | dropQuarantine => exact outcomeKeeps_next (dispose_keeps .dropQuarantine h nofun)
  | dropCrc => exact outcomeKeeps_next (dispose_keeps .dropCrc h nofun)
  | dropOverflow => exact outcomeKeeps_next (dispose_keeps .dropOverflow h nofun)
  | malformed => exact outcomeKeeps_next (dispose_keeps .malformed h nofun)
  | msg => exact outcomeKeeps_ite (h.keeps_of_eq rfl rfl rfl rfl)
  | lit b =>
    change OutcomeKeeps s (execLit b s)
    unfold execLit
    split
    · exact nofun
    · exact outcomeKeeps_next (h.keeps_of_eq rfl rfl rfl rfl)
  | nop | crc16 | crcGen | crcChk | pack | stuff | flag | escFlag | escEsc | escAny =>
    exact outcomeKeeps_next (h.keeps_of_eq rfl rfl rfl rfl)

/-! ### A host's operations (rules R26, R33, R65) -/

/-- The rows of the format CMD. -/
theorem cmd_cases {i : Instr} (h : i.format = .cmd) :
    i = .nop ∨ (∃ pkt dst, i = .send pkt dst) ∨ (∃ raw, i = .recv raw) ∨ i = .reset := by
  cases i with
  | nop => exact .inl rfl
  | send pkt dst => exact .inr (.inl ⟨pkt, dst, rfl⟩)
  | recv raw => exact .inr (.inr (.inl ⟨raw, rfl⟩))
  | reset => exact .inr (.inr (.inr rfl))
  | _ => cases h

theorem decodeCmd_format {code : BitVec 2} {data : Bytes} {dst : Byte} {i : Instr}
    (h : decodeCmd code data dst = .ok i) : i.format = .cmd := by
  unfold decodeCmd at h
  split_ifs at h <;> cases h <;> rfl

theorem decode_presentable_format {t : Transaction} {i : Instr} (ht : presentable t = true)
    (h : decode t = .ok i) : i.format = .cmd := by
  cases t with
  | cmd code data dst => exact decodeCmd_format h
  | _ => cases ht

theorem release_released (s : State) : (release s).Released := by simp [State.Released]

/-- A RECV ends with a disposition, on a state with the inbox it began with. -/
theorem recvStages_eq_dispose (s : State) :
    ∃ d u, recvStages s = dispose d u ∧ u.inbox = s.inbox := by
  cases hp : Claims.parse s.raw with
  | none => exact ⟨_, _, recvStages_of_parse_none hp, rfl⟩
  | some f =>
    rw [recvStages_of_parse_some hp, judgeFrame]
    split
    · split
      · exact ⟨_, _, rfl, rfl⟩
      · split
        · obtain ⟨d, hd, -⟩ := reasmOp_eq_dispose (crcChkOp (takeFrame f s))
          exact ⟨d, _, hd, rfl⟩
        · exact ⟨_, _, rfl, rfl⟩
    · exact ⟨_, _, rfl, rfl⟩

/-- A host's operation releases what it used and takes nothing from the inbox. -/
theorem exec_cmd_released {i : Instr} {s t : State} (hi : i.format = .cmd) (hs : s.Released)
    (h : exec i s = .next t) : t.Released ∧ t.inbox = s.inbox := by
  obtain rfl | ⟨pkt, dst, rfl⟩ | ⟨raw, rfl⟩ | rfl := cmd_cases hi
  · obtain rfl := Host.Outcome.next.inj h
    exact ⟨hs, rfl⟩
  · by_cases hlen : pkt.length ≤ 255
    · obtain rfl := Host.Outcome.next.inj ((exec_send hlen dst s).symm.trans h)
      exact ⟨release_released (sendFrames (loadSend pkt dst s)), sendFrames_inbox (loadSend pkt dst s)⟩
    · cases (if_neg hlen).symm.trans h
  · by_cases hlen : raw.length ≤ 255
    · obtain rfl := Host.Outcome.next.inj ((exec_recv hlen s).symm.trans h)
      obtain ⟨d, u, hd, hu⟩ := recvStages_eq_dispose (loadRecv raw s)
      exact hd ▸ ⟨dispose_released d u, (dispose_inbox d u).trans hu⟩
    · cases (if_neg hlen).symm.trans h
  · obtain rfl := Host.Outcome.next.inj h
    exact ⟨release_released { s with error := false, reasm := [] }, rfl⟩

/-! ### RECV and the capacity `C` (rules R32, R85) -/

/-- The state under another configuration record. -/
def State.withCfg (c : Cfg) (s : State) : State := { s with cfg := c }

@[simp] theorem withCfg_cfg (c : Cfg) (s : State) : (s.withCfg c).cfg = c := rfl
@[simp] theorem withCfg_error (c : Cfg) (s : State) : (s.withCfg c).error = s.error := rfl
@[simp] theorem withCfg_frame (c : Cfg) (s : State) : (s.withCfg c).frame = s.frame := rfl
@[simp] theorem withCfg_crcOk (c : Cfg) (s : State) : (s.withCfg c).crcOk = s.crcOk := rfl

theorem dispose_withCfg (c : Cfg) (d : Disposition) (s : State) :
    dispose d (s.withCfg c) = (dispose d s).withCfg c := by
  cases d with
  | delivered =>
    by_cases h : s.frame.frameClass = .single
    · rw [dispose_delivered_single s h, dispose_delivered_single (s.withCfg c) h]
      rfl
    · rw [dispose_delivered_fragment s h, dispose_delivered_fragment (s.withCfg c) h]
      rfl
  | _ => rfl

theorem disposeTested_withCfg {c : Cfg} {s : State} (h : c.reasmMax = s.cfg.reasmMax) (d : Disposition) :
    disposeTested d (s.withCfg c) = (disposeTested d s).withCfg c := by
  have hover : overflows (s.withCfg c) = overflows s := by
    simp only [overflows, State.withCfg, h]
    rfl
  rw [disposeTested, hover, dispose_withCfg, dispose_withCfg, disposeTested]
  split <;> rfl

theorem reasmOp_withCfg {c : Cfg} {s : State} (h : c.reasmMax = s.cfg.reasmMax) :
    reasmOp (s.withCfg c) = (reasmOp s).withCfg c := by
  rw [reasmOp, reasmOp, withCfg_frame]
  cases s.frame.frameClass with
  | single => exact dispose_withCfg c .delivered s
  | first | middle => exact disposeTested_withCfg h .buffered
  | last => exact disposeTested_withCfg h .delivered

theorem crcChkOp_withCfg {c : Cfg} {s : State} (h : c.poly = s.cfg.poly) :
    crcChkOp (s.withCfg c) = (crcChkOp s).withCfg c := by
  simp only [crcChkOp, computeCrc, State.withCfg, h]
  rfl

theorem judgeFrame_withCfg {c : Cfg} {u : State} (haddr : c.localAddr = u.cfg.localAddr)
    (hpoly : c.poly = u.cfg.poly) (hmax : c.reasmMax = u.cfg.reasmMax) :
    judgeFrame (u.withCfg c) = (judgeFrame u).withCfg c := by
  have hacc : accepts c u.frame = accepts u.cfg u.frame := by simp only [accepts, haddr]
  simp only [judgeFrame, crcChkOp_withCfg hpoly, withCfg_cfg, withCfg_error, withCfg_frame, withCfg_crcOk, hacc]
  split
  · split
    · exact dispose_withCfg ..
    · split
      · exact reasmOp_withCfg (s := crcChkOp u) hmax
      · exact dispose_withCfg ..
  · exact dispose_withCfg ..

theorem recvStages_withCfg {c : Cfg} {s : State} (haddr : c.localAddr = s.cfg.localAddr)
    (hpoly : c.poly = s.cfg.poly) (hmax : c.reasmMax = s.cfg.reasmMax) :
    recvStages (s.withCfg c) = (recvStages s).withCfg c := by
  cases hp : Claims.parse s.raw with
  | none =>
    rw [recvStages_of_parse_none hp, recvStages_of_parse_none (s := s.withCfg c) hp, dispose_withCfg]
  | some f =>
    rw [recvStages_of_parse_some hp, recvStages_of_parse_some (s := s.withCfg c) hp]
    exact judgeFrame_withCfg (u := takeFrame f s) haddr hpoly hmax

/-! ### The status channel (rules R81, R220) -/

theorem recv_status (cfg : Cfg) (error : Bool) (reasm raw : Bytes) :
    (Claims.recv cfg error reasm raw).status = statusOf (Claims.recv cfg error reasm raw).disp := by
  unfold Claims.recv
  split
  · rfl
  · dsimp only
    split_ifs <;> rfl

theorem code_toNat (d : Disposition) : d.code.toNat = Claims.dispCode d := by cases d <;> rfl

theorem statusOf_toNat (d : Disposition) :
    (BitVec.ofBool (statusOf d)).toNat = Claims.dispStatus d := by cases d <;> rfl

/-! ### The obligations -/

/-- Settles O7: the invariant is kept by every row of the table (`exec_keeps`). -/
theorem stepKeepsInvariant : Obligations.StepKeepsInvariant := by
  intro s t hinv hstep
  obtain ⟨-, rfl⟩ | ⟨tr, rest, i, -, -, hexec⟩ := step_cases hstep
  · exact hinv.keeps_self
  · exact exec_keeps i (s := { s with inbox := rest }) hinv t hexec

/-- Settles O8: what a host presents decodes to a row of the format CMD, and each of the four releases. -/
theorem hostStepsReleaseBuffersAndIndices : Obligations.HostStepsReleaseBuffersAndIndices := by
  intro s t hhost hrel hstep
  obtain ⟨-, rfl⟩ | ⟨tr, rest, i, hin, hdec, hexec⟩ := step_cases hstep
  · exact ⟨hrel, hhost⟩
  · rw [State.HostOnly, hin, List.forall_mem_cons] at hhost
    obtain ⟨hhead, hrest⟩ := hhost
    obtain ⟨ht, hinbox⟩ := exec_cmd_released (s := { s with inbox := rest })
      (decode_presentable_format hhead hdec) hrel hexec
    exact ⟨ht, by rwa [State.HostOnly, hinbox]⟩

/-- Settles O56: RECV is a function of `cfg`, `error`, `reasm` and `raw`, and the frames of a SEND one of `cfg` and
the operands. -/
theorem transientsAreNeverReadFirst : Obligations.TransientsAreNeverReadFirst := by
  intro s t i hcfg herr hreasm hev hfmt hwf
  obtain rfl | ⟨pkt, dst, rfl⟩ | ⟨raw, rfl⟩ | rfl := cmd_cases hfmt
  · exact ⟨_, _, rfl, rfl, herr, hreasm, hev, rfl⟩
  · have hlen : pkt.length ≤ 255 := of_decide_eq_true hwf
    exact ⟨_, _, exec_send hlen dst s, exec_send hlen dst t, by simp [herr], by simp [hreasm],
      by simp [sendFrames_events, hcfg, hev], rfl⟩
  · have hlen : raw.length ≤ 255 := of_decide_eq_true hwf
    obtain ⟨s', hs, hs'⟩ := exec_recv_leaves hlen s
    obtain ⟨t', ht, ht'⟩ := exec_recv_leaves hlen t
    rw [hcfg, herr, hreasm, hev] at hs'
    exact ⟨s', t', hs, ht, hs'.error.trans ht'.error.symm, hs'.reasm.trans ht'.reasm.symm,
      hs'.events.trans ht'.events.symm, hs'.result.trans ht'.result.symm⟩
  · exact ⟨_, _, rfl, rfl, rfl, rfl, hev, rfl⟩

/-- Settles O57: each stage of RECV goes the same way under a configuration with another `C`. -/
theorem recvIgnoresCapacity : Obligations.RecvIgnoresCapacity := by
  intro s cfg raw hlen haddr hpoly hmax
  refine ⟨_, exec_recv hlen s, (exec_recv hlen _).trans (congrArg Host.Outcome.next ?_)⟩
  exact recvStages_withCfg (s := loadRecv raw s) haddr hpoly hmax

/-- Settles O60: the disposition is that of the transition function, and the word is its code and its status. -/
theorem recvResultWord : Obligations.RecvResultWord := by
  intro s raw hlen d
  obtain ⟨t, ht, hleaves⟩ := exec_recv_leaves hlen s
  have hres : t.result = .recv (statusOf d) d := recv_status .. ▸ hleaves.result
  refine ⟨t, d.code ++ BitVec.ofBool (statusOf d), ht, by rw [hres, recvWord_recv], ?_, ?_, ?_⟩
  · rw [BitVec.extractLsb'_append_eq_left, code_toNat]
  · rw [BitVec.extractLsb'_append_eq_right, statusOf_toNat]
  · rw [BitVec.extractLsb'_append_eq_left]
    exact decodeDisp_code d

/-- Settles O4: `reasm` and `net_packet` are empty after reset. -/
theorem resetMeetsInvariant : Obligations.ResetMeetsInvariant :=
  fun _ => ⟨Nat.zero_le _, rfl⟩

/-- Settles O5: the encoding of a well-formed instruction decodes to it (`decode_encode`). -/
theorem stepRunsDecodedInstruction : Obligations.StepRunsDecodedInstruction :=
  ⟨fun _ _ _ _ hin hdec => step_cons hin hdec,
    fun _ _ _ hwf hin => step_cons hin (decode_encode hwf),
    fun _ hin => step_nil hin⟩

/-- Settles O6: `reasm` is within `REASM_MAX`, so its length fits the eight bits of `reasm_len_q`. -/
theorem accessorsReadState : Obligations.AccessorsReadState := by
  rintro s ⟨hfits, -⟩
  obtain ⟨-, -, -, hmax⟩ := s.cfg.legal
  refine ⟨?_, ?_, ?_⟩
  · cases h : s.error <;> simp [State.errorQ, h]
  · cases h : s.error <;> simp [State.errorQ, h]
  · exact Nat.mod_eq_of_lt (by omega)

end Sys2Proof.Machine

/-! SUPPORT. The proof of the statement about the message layout (20_memory.md): MSG leaves its fields between a
five-byte header and a two-byte checksum. -/

namespace Sys2Proof.Machine

/-! ### The regions of a message (rules R59, R70) -/

/-- MSG with a payload of the declared length leaves the fields one after the other, and writes nothing else. -/
theorem exec_msg {len : Byte} {p : Bytes} (h : p.length = len.toNat) (c0 c1 a0 a1 k0 k1 : Byte) (s : State) :
    exec (.msg c0 c1 a0 a1 len p k0 k1) s =
      .next { s with msg := [c0, c1, a0, a1, len] ++ p ++ [k0, k1], result := .nothing } := if_pos h

theorem getElem?_payload {head p tail : Bytes} {i : Nat} (h : i < p.length) :
    (head ++ p ++ tail)[head.length + i]? = p[i]? := by
  rw [List.append_assoc, List.getElem?_append_right (Nat.le_add_right ..), Nat.add_sub_cancel_left,
    List.getElem?_append_left h]

theorem getElem?_checksum (head p tail : Bytes) (i : Nat) :
    (head ++ p ++ tail)[head.length + p.length + i]? = tail[i]? := by
  rw [← List.length_append, List.getElem?_append_right (Nat.le_add_right ..), Nat.add_sub_cancel_left]

/-! ### The obligation -/

/-- Settles O30: the header's bytes stand at the front, and the payload and the checksum after the lengths of
what precedes them. -/
theorem messageOffsets : Obligations.MessageOffsets := by
  intro s c0 c1 a0 a1 len k0 k1 p hlen
  have hchecksum := getElem?_checksum [c0, c1, a0, a1, len] p [k0, k1]
  refine ⟨_, exec_msg hlen c0 c1 a0 a1 k0 k1 s, ?_, rfl, rfl, rfl, rfl, rfl, ?_, ?_, ?_⟩
  · simp only [List.length_append, List.length_cons, List.length_nil]
    omega
  · intro i hi
    exact getElem?_payload (head := [c0, c1, a0, a1, len]) (hlen ▸ hi)
  · exact hlen ▸ hchecksum 0
  · rw [← hlen, show 6 + p.length = 5 + p.length + 1 by omega]
    exact hchecksum 1

end Sys2Proof.Machine

/-! SUPPORT. Proofs of the statements about the encodings (30_encoding.md): what the decoder accepts, the run of a
stuffed body's rows, and the structural half of RECV's status. -/

namespace Sys2Proof.Machine

/-! ### What the decoder accepts (rules R72, R74, R75, R78, R191) -/

/-- `i` is a well-formed row of the format `fmt`. -/
abbrev IsRowOf (fmt : Format) (i : Instr) : Prop := i.wellFormed = true ∧ i.format = fmt

theorem decodeCmd_isRow {code : BitVec 2} {data : Bytes} {dst : Byte} {i : Instr}
    (h : decodeCmd code data dst = .ok i) : IsRowOf .cmd i := by
  refine ⟨?_, decodeCmd_format h⟩
  unfold decodeCmd at h
  split_ifs at h with hnop hsend hpkt hrecv hraw
  all_goals obtain rfl := Except.ok.inj h
  · rfl
  · exact decide_eq_true hpkt
  · exact decide_eq_true hraw
  · rfl

theorem decodeEngine_isRow (op : EngineOp) : IsRowOf .engine (decodeEngine op) := by
  cases op <;> exact ⟨rfl, rfl⟩

/-- A message of the declared length has a payload of the declared length. -/
theorem decodeMsg_isRow {m : Bytes} {i : Instr} (h : decodeMsg m = .ok i) : IsRowOf .msg i := by
  unfold decodeMsg at h
  split_ifs at h with hshort hlen
  obtain rfl := Except.ok.inj h
  refine ⟨decide_eq_true ?_, rfl⟩
  simp only [slice, List.length_take, List.length_drop]
  omega

theorem decodeDelim_isRow {b : Byte} {i : Instr} (h : decodeDelim b = .ok i) : IsRowOf .wire i := by
  unfold decodeDelim at h
  split_ifs at h
  obtain rfl := Except.ok.inj h
  exact ⟨rfl, rfl⟩

/-- The row of an escape pair: the two that stand for reserved bytes have rows of their own (rules R74, R75). -/
def escapeRow (x : Byte) : Instr :=
  if x = flagByte ^^^ escMask then .escFlag
  else if x = escByte ^^^ escMask then .escEsc
  else .escAny x

/-- The rows of the body: a byte other than ESC, or ESC and any byte. -/
theorem decodeBody_cases {bs : Bytes} {i : Instr} (h : decodeBody bs = .ok i) :
    (∃ b, b ≠ escByte ∧ bs = [b] ∧ i = .lit b) ∨ ∃ x, bs = [escByte, x] ∧ i = escapeRow x := by
  match bs, h with
  | [b], h =>
    simp only [decodeBody] at h
    split_ifs at h with hesc
    exact .inl ⟨b, hesc, rfl, (Except.ok.inj h).symm⟩
  | [b, x], h =>
    simp only [decodeBody] at h
    by_cases hesc : b = escByte
    · refine .inr ⟨x, by rw [hesc], ?_⟩
      unfold escapeRow
      split_ifs at h ⊢ <;> exact (Except.ok.inj h).symm
    · rw [if_pos hesc] at h
      cases h

theorem lit_isRow {b : Byte} (h : b ≠ escByte) : IsRowOf .wire (.lit b) := ⟨decide_eq_true h, rfl⟩

theorem escapeRow_isRow (x : Byte) : IsRowOf .wire (escapeRow x) := by
  unfold escapeRow
  split_ifs with hflag hesc
  · exact ⟨rfl, rfl⟩
  · exact ⟨rfl, rfl⟩
  · exact ⟨decide_eq_true ⟨hflag, hesc⟩, rfl⟩

theorem decodeBody_isRow {bs : Bytes} {i : Instr} (h : decodeBody bs = .ok i) : IsRowOf .wire i := by
  obtain ⟨b, hesc, -, rfl⟩ | ⟨x, -, rfl⟩ := decodeBody_cases h
  · exact lit_isRow hesc
  · exact escapeRow_isRow x

theorem decodeCtrl_isRow (c0 c1 : Byte) : IsRowOf .ctrl (decodeCtrl c0 c1) := by
  unfold decodeCtrl
  cases hcls : frameClass c0 c1 with
  | single => exact ⟨rfl, rfl⟩
  | first => exact ⟨decide_eq_true ((frameClass_first_iff c0 c1).mp hcls).1, rfl⟩
  | last =>
    obtain ⟨h1, rfl⟩ := (frameClass_last_iff c0 c1).mp hcls
    exact ⟨decide_eq_true h1, rfl⟩
  | middle => exact ⟨decide_eq_true ((frameClass_middle_iff c0 c1).mp hcls), rfl⟩

theorem decodeDisp_isRow {code : BitVec 3} {i : Instr} (h : decodeDisp code = .ok i) : IsRowOf .disp i := by
  unfold decodeDisp at h
  split_ifs at h
  all_goals
    obtain rfl := Except.ok.inj h
    exact ⟨rfl, rfl⟩

/-! ### The control bytes (rule R78) -/

theorem decodeCtrl_eq_single (c0 : Byte) : decodeCtrl c0 0 = .single c0 := rfl

theorem exec_middle_refused {c0 c1 : Byte} (h : ¬ (c1 ≠ 0 ∧ c0 ≠ 0 ∧ c0 ≠ c1)) (s : State) :
    exec (.middle c0 c1) s = .refused .notOfThisClass := if_neg (mt (frameClass_middle_iff c0 c1).mp h)

/-! ### The table's numbers (notes/assumptions/5.md) -/

/-- A number that stands for the encoding of a well-formed instruction is read as that instruction. -/
theorem decodeTableWord_of_encode {nbits w : Nat} {i : Instr} (h : tableTransaction nbits w = encode i)
    (hwf : i.wellFormed = true) : decodeTableWord nbits w = some i := by
  rw [decodeTableWord, h, decode_encode hwf]

/-! ### The rows of a body as turns of DESTUFF's loop (rules R74, R75, R125) -/

theorem exec_lit {b : Byte} (h : b ≠ escByte) (s : State) :
    exec (.lit b) s = .next (returnsNothing (yieldByte b 1 s)) := if_neg h

theorem exec_escapeRow (x : Byte) (s : State) :
    exec (escapeRow x) s = .next (returnsNothing (yieldByte (unescape x) 2 s)) := by
  unfold escapeRow
  split_ifs with hflag hesc
  · rw [hflag]; rfl
  · rw [hesc]; rfl
  · rfl

theorem bodyBytes_escapeRow (x : Byte) : Claims.bodyBytes (escapeRow x) = [escByte, x] := by
  unfold escapeRow
  split_ifs with hflag hesc
  · rw [hflag]; rfl
  · rw [hesc]; rfl
  · rfl

/-- DESTUFF's scan after `k` more bytes of the body, which gave `m`. -/
def scanned (m : Bytes) (k : Nat) (s : State) : State :=
  { s with msg := s.msg ++ m, scanIndex := s.scanIndex + k }

/-- The rows `is` are the bytes `body`, and running them scans `body` and yields `m`. -/
structure BodyRun (body m : Bytes) (is : List Instr) : Prop where
  rows : ∀ i ∈ is, IsRowOf .wire i
  bytes : is.flatMap Claims.bodyBytes = body
  run : ∀ s, Claims.execAll is (returnsNothing s) = .next (returnsNothing (scanned m body.length s))

theorem bodyRun_nil : BodyRun [] [] [] where
  rows := nofun
  bytes := rfl
  run s := by simp [Claims.execAll, scanned]

/-- One more row in front, which yields `b`. -/
theorem BodyRun.cons {body m : Bytes} {is : List Instr} (h : BodyRun body m is) {i : Instr} {b : Byte}
    (hrow : IsRowOf .wire i)
    (hexec : ∀ s, exec i s = .next (returnsNothing (yieldByte b (Claims.bodyBytes i).length s))) :
    BodyRun (Claims.bodyBytes i ++ body) (b :: m) (i :: is) where
  rows := List.forall_mem_cons.mpr ⟨hrow, h.rows⟩
  bytes := by rw [List.flatMap_cons, h.bytes]
  run s := by
    rw [Claims.execAll, hexec]
    refine (h.run (yieldByte b _ s)).trans ?_
    simp [scanned, yieldByte, returnsNothing, Nat.add_assoc]

theorem BodyRun.cons_lit {body m : Bytes} {is : List Instr} (h : BodyRun body m is) {b : Byte}
    (hesc : b ≠ escByte) : BodyRun (b :: body) (b :: m) (.lit b :: is) :=
  h.cons (lit_isRow hesc) (exec_lit hesc)

theorem BodyRun.cons_escape {body m : Bytes} {is : List Instr} (h : BodyRun body m is) (x : Byte) :
    BodyRun (escByte :: x :: body) (unescape x :: m) (escapeRow x :: is) := by
  have hbytes := bodyBytes_escapeRow x
  have hcons := h.cons (escapeRow_isRow x) (by rw [hbytes]; exact exec_escapeRow x)
  rwa [hbytes] at hcons

/-- Every body that DESTUFF's scan accepts is a run of body rows. -/
theorem exists_bodyRun {body m : Bytes} (h : destuffBody body = some m) : ∃ is, BodyRun body m is := by
  induction body using destuffBody.induct generalizing m with
  | case1 =>
    obtain rfl := Option.some.inj h
    exact ⟨[], bodyRun_nil⟩
  | case2 => cases h
  | case3 b hesc =>
    rw [destuffBody, if_neg hesc] at h
    obtain rfl := Option.some.inj h
    exact ⟨[.lit b], bodyRun_nil.cons_lit hesc⟩
  | case4 x rest ih =>
    rw [destuffBody_esc] at h
    obtain ⟨m', hm', rfl⟩ := Option.map_eq_some_iff.mp h
    obtain ⟨is, his⟩ := ih hm'
    exact ⟨escapeRow x :: is, his.cons_escape x⟩
  | case5 b x rest hesc ih =>
    rw [destuffBody_lit hesc] at h
    obtain ⟨m', hm', rfl⟩ := Option.map_eq_some_iff.mp h
    obtain ⟨is, his⟩ := ih hm'
    exact ⟨.lit b :: is, his.cons_lit hesc⟩

theorem exec_destuff {s : State} {m : Bytes} (hdel : delimited s.raw = true)
    (hbody : destuffBody (bodyOf s.raw) = some m) :
    exec .destuff s = .next (returnsNothing (takeMessage m s)) := by
  show Host.Outcome.next (destuffStage s).finish = _
  rw [destuffStage, if_pos hdel, hbody]
  rfl

/-! ### The status of RECV (rules R83, R196) -/

theorem recv_of_parse_none {raw : Bytes} (h : Claims.parse raw = none) (cfg : Cfg) (error : Bool) (reasm : Bytes) :
    Claims.recv cfg error reasm raw = ⟨error, reasm, [], false, .malformed⟩ := by
  rw [Claims.recv, h]

theorem recv_status_eq_false_iff (cfg : Cfg) (error : Bool) (reasm raw : Bytes) :
    (Claims.recv cfg error reasm raw).status = false ↔ Claims.parse raw = none := by
  cases h : Claims.parse raw with
  | none => simp [recv_of_parse_none h]
  | some f =>
    rw [Claims.recv, h]
    dsimp only
    split_ifs <;> simp

/-- Stage 1 ends a RECV exactly when one of M1 to M5 holds (rule R83). -/
theorem parse_eq_none_iff (raw : Bytes) :
    Claims.parse raw = none ↔ Claims.BadDelimiters raw ∨ Claims.destuff raw = none ∨
      ∃ m, Claims.destuff raw = some m ∧ Claims.BadMessage m := by
  unfold Claims.parse
  by_cases hdel : Claims.BadDelimiters raw
  · exact iff_of_true (if_pos hdel) (.inl hdel)
  · rw [if_neg hdel, or_iff_right hdel]
    cases Claims.destuff raw with
    | none => simp
    | some m => by_cases hmsg : Claims.BadMessage m <;> simp [hmsg]

/-! ### The obligations -/

/-- Settles O11: UNPACK's reading of a message, and the class of a pair of control bytes, give every operand back
(`decode_encode`). -/
theorem decodeOfEncode : Obligations.DecodeOfEncode := fun _ => decode_encode

/-- Settles O12: each format's decoder gives well-formed rows of that format. -/
theorem decodedIsWellFormed : Obligations.DecodedIsWellFormed := by
  intro t i h
  cases t with
  | cmd code data dst => exact decodeCmd_isRow h
  | engine op => exact Except.ok.inj h ▸ decodeEngine_isRow op
  | msg m => exact decodeMsg_isRow h
  | delim b => exact decodeDelim_isRow h
  | body bs => exact decodeBody_isRow h
  | ctrl c0 c1 => exact Except.ok.inj h ▸ decodeCtrl_isRow c0 c1
  | disp code => exact decodeDisp_isRow h

/-- Settles O32: the rows are read off the body as DESTUFF scans it (`exists_bodyRun`). -/
theorem destuffIsTheRunOfItsBody : Obligations.DestuffIsTheRunOfItsBody := by
  intro s m hdel hm
  have hdelimited : delimited s.raw = true :=
    Bool.eq_true_of_not_eq_false (mt (delimited_eq_false_iff s.raw).mp hdel)
  rw [destuff_eq] at hm
  obtain ⟨is, his⟩ := exists_bodyRun hm
  refine ⟨is, his.rows, his.bytes, ?_⟩
  rw [exec_destuff hdelimited hm]
  refine (his.run { s with msg := [], scanIndex := 0 }).trans ?_
  simp [scanned, takeMessage]

/-- Settles O50: `status` is 0 exactly when stage 1 gives no frame, and then RECV's transition function keeps
everything. -/
theorem recvStatusIsStructural : Obligations.RecvStatusIsStructural := by
  intro s raw hlen
  obtain ⟨t, ht, hleaves⟩ := exec_recv_leaves hlen s
  refine ⟨t, _, _, ht, hleaves.result, ?_, ?_, ?_⟩
  · simp [recv_status, statusOf]
  · exact (recv_status_eq_false_iff ..).trans (parse_eq_none_iff raw)
  · intro hstatus
    rw [recv_of_parse_none ((recv_status_eq_false_iff ..).mp hstatus)] at hleaves
    exact ⟨hleaves.error, hleaves.reasm, hleaves.events.trans (List.append_nil _)⟩

/-- Settles O10: each number stands for the encoding of its row, and code 7 for none. -/
theorem specWordsDecode : Obligations.SpecWordsDecode :=
  ⟨decodeTableWord_of_encode rfl rfl, decodeTableWord_of_encode rfl rfl, decodeTableWord_of_encode rfl rfl,
    decodeTableWord_of_encode rfl rfl, decodeTableWord_of_encode rfl rfl, decodeTableWord_of_encode rfl rfl,
    decodeTableWord_of_encode rfl rfl, decodeTableWord_of_encode rfl rfl, decodeTableWord_of_encode rfl rfl,
    decodeTableWord_of_encode rfl rfl, decodeTableWord_of_encode rfl rfl, decodeTableWord_of_encode rfl rfl,
    decode_encode (i := .msg 0x01 0x01 0x0A 0x0B 0x01 [0x09] 0xF6 0xD2) rfl, decodeDisp_code .malformed, rfl⟩

/-- Settles O13: each class holds exactly under its condition, and the decoder reads the class. -/
theorem frameClassesPartition : Obligations.FrameClassesPartition := by
  intro c0 c1
  refine ⟨frameClass_single_iff c0 c1, frameClass_first_iff c0 c1, frameClass_last_iff c0 c1,
    frameClass_middle_iff c0 c1, ?_, ?_, ?_, ?_⟩
  · rintro rfl
    exact congrArg Except.ok (decodeCtrl_eq_single c0)
  · rintro h1 rfl
    exact congrArg Except.ok (decodeCtrl_eq_first h1)
  · rintro h1 rfl
    exact congrArg Except.ok (decodeCtrl_eq_last h1)
  · intro h1 h0 hc
    exact congrArg Except.ok (decodeCtrl_eq_middle ⟨h1, h0, hc⟩)

/-- Settles O31: an escape pair yields its second byte with the mask off, a literal itself. -/
theorem bodyBytesYield : Obligations.BodyBytesYield :=
  ⟨fun _ => rfl, fun _ => rfl, fun _ => rfl, fun _ _ => rfl, fun _ s hb => exec_lit hb s⟩

/-- Settles O43: the bytes of each row named are those of another class, the escape marker, or no message. -/
theorem illFormedRowsRefused : Obligations.IllFormedRowsRefused := by
  refine fun s => ⟨rfl, rfl, ?_, rfl, fun _ _ _ _ _ _ _ _ hlen => if_neg hlen⟩
  intro c0 c1 hother
  exact exec_middle_refused (fun ⟨h1, h0, hc⟩ => hother.elim h1 (·.elim h0 hc)) s

end Sys2Proof.Machine

/-! SUPPORT. Proofs of the statements about the CRC engine (40_crc.md): the bit step iterated, the CRC as long division
in a register, and the register read as a polynomial over GF(2). -/

namespace Sys2Proof.Machine

/-! ### The bit step, iterated (rule R100) -/

theorem repeat_eq_iterate {α : Type} (f : α → α) (n : Nat) (a : α) : Nat.repeat f n a = f^[n] a := by
  induction n with
  | zero => rfl
  | succ n ih => rw [Function.iterate_succ_apply', ← ih, Nat.repeat]

/-- The byte in bits 15:8 of the register, where it enters. -/
def byteAtTop (b : Byte) : Half := b ++ (0 : Byte)

/-- The byte in bits 7:0 of the register. -/
def byteAtBottom (b : Byte) : Half := (0 : Byte) ++ b

theorem crcByte_eq_iterate (poly c : Half) (b : Byte) :
    crcByte poly c b = (crcBit poly)^[8] (c ^^^ byteAtTop b) := repeat_eq_iterate _ _ _

theorem iterate_crcBit_xor (poly : Half) (n : Nat) (a b : Half) :
    (crcBit poly)^[n] (a ^^^ b) = (crcBit poly)^[n] a ^^^ (crcBit poly)^[n] b := by
  simp only [← repeat_eq_iterate, repeat_crcBit_xor]

theorem iterate_crcBit_zero (poly : Half) (n : Nat) : (crcBit poly)^[n] 0 = 0 :=
  Function.iterate_fixed (crcBit_zero poly) n

theorem crcBit_of_msb_false {c : Half} (h : c.msb = false) (poly : Half) : crcBit poly c = c <<< 1 := by
  simp [crcBit, h]

theorem crcBit_of_msb_true {c : Half} (h : c.msb = true) (poly : Half) : crcBit poly c = (c <<< 1) ^^^ poly := by
  simp [crcBit, h]

/-- As long as no set bit reaches the top, the bit steps only shift. -/
theorem toNat_iterate_crcBit (poly : Half) {c : Half} {n : Nat} (h : c.toNat * 2 ^ n < 2 ^ 16) :
    ((crcBit poly)^[n] c).toNat = c.toNat * 2 ^ n := by
  induction n with
  | zero => simp
  | succ n ih =>
    rw [pow_succ, ← Nat.mul_assoc] at h ⊢
    have hprev := ih (by omega)
    have hmsb : ((crcBit poly)^[n] c).msb = false := by
      rw [BitVec.msb_eq_decide, hprev, decide_eq_false_iff_not]
      omega
    rw [Function.iterate_succ_apply', crcBit_of_msb_false hmsb, BitVec.toNat_shiftLeft, hprev, Nat.shiftLeft_eq,
      Nat.mod_eq_of_lt h]

theorem toNat_byteAtTop (b : Byte) : (byteAtTop b).toNat = b.toNat * 2 ^ 8 := by
  rw [byteAtTop, BitVec.toNat_append]
  simp [Nat.shiftLeft_eq]

theorem byteAtTop_eq_shiftLeft (b : Byte) : byteAtTop b = b.setWidth 16 <<< 8 := by
  apply BitVec.eq_of_toNat_eq
  rw [toNat_byteAtTop, BitVec.toNat_shiftLeft, BitVec.toNat_setWidth, Nat.shiftLeft_eq]
  omega

theorem toNat_byteAtBottom (b : Byte) : (byteAtBottom b).toNat = b.toNat := by
  rw [byteAtBottom, BitVec.toNat_append]
  simp

theorem byteAtTop_xor (a b : Byte) : byteAtTop (a ^^^ b) = byteAtTop a ^^^ byteAtTop b :=
  (BitVec.xor_append (x₁ := a) (x₂ := b) (y₁ := 0) (y₂ := 0)).symm

theorem append_eq_xor (a b : Byte) : (a ++ b : Half) = byteAtTop a ^^^ byteAtBottom b := by
  have h : byteAtTop a ^^^ byteAtBottom b = (a ^^^ 0) ++ (0 ^^^ b) := BitVec.xor_append
  rw [h, BitVec.ofNat_eq_ofNat, BitVec.xor_zero, BitVec.zero_xor]

/-- Eight bit steps carry a low byte to the top. -/
theorem iterate_crcBit_byteAtBottom (poly : Half) (b : Byte) : (crcBit poly)^[8] (byteAtBottom b) = byteAtTop b := by
  apply BitVec.eq_of_toNat_eq
  rw [toNat_iterate_crcBit poly (by rw [toNat_byteAtBottom]; omega), toNat_byteAtBottom, toNat_byteAtTop]

/-- Two bytes enter as one 16-bit value. -/
theorem crc16_concat_two (poly : Half) (p : Bytes) (a b : Byte) :
    crc16 poly (p ++ [a, b]) = (crcBit poly)^[16] (crc16 poly p ^^^ (a ++ b)) := by
  rw [crc16_append, List.foldl_cons, List.foldl_cons, List.foldl_nil, crcByte_eq_iterate, crcByte_eq_iterate,
    ← iterate_crcBit_byteAtBottom poly b, ← iterate_crcBit_xor, ← Function.iterate_add_apply, BitVec.xor_assoc,
    ← append_eq_xor]

/-- The register holds zero once its own value has entered. -/
theorem crc16_append_own_bytes {poly : Half} {p : Bytes} {a b : Byte} (h : crc16 poly p = a ++ b) :
    crc16 poly (p ++ [a, b]) = 0 := by
  rw [crc16_concat_two, h, BitVec.xor_self]
  exact iterate_crcBit_zero poly 16

/-! ### Linearity (rule R103, law 3) -/

theorem crcByte_xor (poly c d : Half) (a b : Byte) :
    crcByte poly (c ^^^ d) (a ^^^ b) = crcByte poly c a ^^^ crcByte poly d b := by
  simp only [crcByte_eq_iterate, byteAtTop_xor, iterate_crcBit_xor]
  ac_rfl

theorem crcByte_xor_byte (poly c : Half) (a b : Byte) :
    crcByte poly c (a ^^^ b) = crcByte poly c a ^^^ (crcBit poly)^[8] (byteAtTop b) := by
  simp only [crcByte_eq_iterate, byteAtTop_xor, iterate_crcBit_xor, BitVec.xor_assoc]

theorem crcByte_xor_register (poly c d : Half) (b : Byte) :
    crcByte poly (c ^^^ d) b = crcByte poly c b ^^^ (crcBit poly)^[8] d := by
  simp only [crcByte_eq_iterate, iterate_crcBit_xor]
  ac_rfl

/-- A difference in the register runs on by bit steps, whatever bytes follow. -/
theorem foldl_crcByte_xor (poly : Half) (q : Bytes) (c d : Half) :
    q.foldl (crcByte poly) (c ^^^ d) = q.foldl (crcByte poly) c ^^^ (crcBit poly)^[8 * q.length] d := by
  induction q generalizing c d with
  | nil => rfl
  | cons b q ih =>
    rw [List.foldl_cons, List.foldl_cons, crcByte_xor_register, ih, ← Function.iterate_add_apply, List.length_cons,
      Nat.mul_succ]

theorem foldl_crcByte_zipWith_xor (poly : Half) {a b : Bytes} (h : a.length = b.length) (c d : Half) :
    (List.zipWith (· ^^^ ·) a b).foldl (crcByte poly) (c ^^^ d) =
      a.foldl (crcByte poly) c ^^^ b.foldl (crcByte poly) d := by
  induction a generalizing b c d with
  | nil => obtain rfl := List.length_eq_zero_iff.mp h.symm; rfl
  | cons x a ih =>
    obtain ⟨y, b, rfl⟩ := List.exists_cons_of_length_eq_add_one h.symm
    simp only [List.zipWith_cons_cons, List.foldl_cons, crcByte_xor]
    exact ih (Nat.succ.inj h) _ _

theorem crc16_zeros_append (poly : Half) (k : Nat) (bs : Bytes) :
    crc16 poly (List.replicate k 0 ++ bs) = crc16 poly bs := by
  induction k with
  | zero => rfl
  | succ k ih =>
    rw [← ih, crc16, List.replicate_succ, List.cons_append, List.foldl_cons, crcByte_zero, ← crc16]

theorem crc16_zeros (poly : Half) (k : Nat) : crc16 poly (List.replicate k 0) = 0 := by
  simpa using crc16_zeros_append poly k []

/-- The all-zero message passes. -/
theorem crcOk_of_default {s : State} (h : s.frame = Frame.default) : (crcChkOp s).crcOk = true := by
  have hzero : crc16 s.cfg.poly (protectedBytes s.frame) = 0 := by
    rw [h]
    exact crc16_zeros s.cfg.poly 5
  rw [crcChkOp_crcOk, hzero, h]
  rfl

/-! ### No single bit is lost (rule R103, law 6)

`G` divides no power of `x`: with `x^j` the highest power of `x` in `POLY`, the bit step is one-to-one on the registers
that `x^j` divides, `POLY` is one of them, and a lone bit that leaves the top becomes `POLY`. -/

/-- The polynomial in the register is a multiple of `x^j`. -/
def LowZeros (j : Nat) (c : Half) : Prop := ∀ i < j, c.getLsbD i = false

theorem exists_lowest_bit {c : Half} (h : c ≠ 0) : ∃ j, c.getLsbD j = true ∧ LowZeros j c := by
  have hbit : ∃ j, c.getLsbD j = true := by
    by_contra hno
    exact h (BitVec.eq_of_getLsbD_eq fun i _ => by simpa using mt (Exists.intro i) hno)
  exact ⟨Nat.find hbit, Nat.find_spec hbit, fun i hi => by simpa using Nat.find_min hbit hi⟩

theorem lowZeros_shiftLeft_one {j : Nat} {c : Half} (h : LowZeros j c) : LowZeros (j + 1) (c <<< 1) := by
  intro i hi
  rw [BitVec.getLsbD_shiftLeft]
  by_cases hi0 : i < 1
  · simp [hi0]
  · rw [h (i - 1) (by omega), Bool.and_false]

theorem lowZeros_crcBit {poly : Half} {j : Nat} (hpoly : LowZeros j poly) {c : Half} (hc : LowZeros j c) :
    LowZeros j (crcBit poly c) := by
  intro i hi
  have hshift : (c <<< 1).getLsbD i = false := lowZeros_shiftLeft_one hc i (by omega)
  cases hmsb : c.msb with
  | false => rw [crcBit_of_msb_false hmsb, hshift]
  | true => rw [crcBit_of_msb_true hmsb, BitVec.getLsbD_xor, hshift, hpoly i hi, Bool.xor_false]

theorem crcBit_ne_zero {poly : Half} {j : Nat} (hj : poly.getLsbD j = true) {c : Half} (hc : LowZeros j c)
    (hne : c ≠ 0) : crcBit poly c ≠ 0 := by
  intro hzero
  cases hmsb : c.msb with
  | false =>
    rw [crcBit_of_msb_false hmsb] at hzero
    have hlt : c.toNat < 2 ^ 15 := by simpa [BitVec.msb_eq_decide] using hmsb
    exact hne (by bv_omega)
  | true =>
    rw [crcBit_of_msb_true hmsb, BitVec.ofNat_eq_ofNat, BitVec.xor_eq_zero_iff] at hzero
    rw [← hzero, lowZeros_shiftLeft_one hc j (Nat.lt_succ_self j)] at hj
    exact Bool.noConfusion hj

theorem iterate_crcBit_ne_zero {poly : Half} {j : Nat} (hj : poly.getLsbD j = true) (hpoly : LowZeros j poly)
    {c : Half} (hc : LowZeros j c) (hne : c ≠ 0) (n : Nat) : (crcBit poly)^[n] c ≠ 0 := by
  induction n generalizing c with
  | zero => exact hne
  | succ n ih => exact ih (lowZeros_crcBit hpoly hc) (crcBit_ne_zero hj hc hne)

theorem toNat_iterate_crcBit_twoPow (poly : Half) {c : Half} {e n : Nat} (hc : c.toNat = 2 ^ e) (hn : e + n < 16) :
    ((crcBit poly)^[n] c).toNat = 2 ^ (e + n) := by
  have hpow : c.toNat * 2 ^ n = 2 ^ (e + n) := by rw [hc, pow_add]
  rw [toNat_iterate_crcBit poly (hpow ▸ Nat.pow_lt_pow_right (by decide) hn), hpow]

/-- A lone bit that leaves the top becomes `POLY`. -/
theorem iterate_crcBit_twoPow (poly : Half) {c : Half} {e : Nat} (he : e < 16) (hc : c.toNat = 2 ^ e) (n : Nat) :
    (crcBit poly)^[n + (16 - e)] c = (crcBit poly)^[n] poly := by
  have htop : (crcBit poly)^[15 - e] c = 0x8000 := by
    apply BitVec.eq_of_toNat_eq
    rw [toNat_iterate_crcBit_twoPow poly hc (by omega), Nat.add_sub_cancel' (by omega)]
    rfl
  have hleave : crcBit poly 0x8000 = poly := BitVec.zero_xor
  rw [show n + (16 - e) = n + 1 + (15 - e) by omega, Function.iterate_add_apply, htop,
    Function.iterate_succ_apply, hleave]

/-- `x^e * x^n` is no multiple of `G`. -/
theorem iterate_crcBit_twoPow_ne_zero {poly : Half} (hne : poly ≠ 0) {c : Half} {e : Nat} (he : e < 16)
    (hc : c.toNat = 2 ^ e) (n : Nat) : (crcBit poly)^[n] c ≠ 0 := by
  by_cases hn : e + n < 16
  · intro hzero
    have hpos := Nat.two_pow_pos (e + n)
    rw [← toNat_iterate_crcBit_twoPow poly hc hn, hzero] at hpos
    exact absurd hpos (by decide)
  · obtain ⟨j, hj, hpoly⟩ := exists_lowest_bit hne
    rw [show n = n - (16 - e) + (16 - e) by omega, iterate_crcBit_twoPow poly he hc]
    exact iterate_crcBit_ne_zero hj hpoly hpoly hne _

theorem cfg_poly_ne_zero (cfg : Cfg) : cfg.poly ≠ 0 := by
  obtain ⟨-, hpoly, -⟩ := cfg.legal
  intro h
  rw [h] at hpoly
  exact absurd hpoly (by decide)

theorem lowZeros_zero (c : Half) : LowZeros 0 c := fun _ hi => absurd hi (Nat.not_lt_zero _)

/-- With an odd `POLY` the bit step is one-to-one. -/
theorem iterate_crcBit_eq_zero {poly : Half} (hodd : poly.getLsbD 0 = true) {n : Nat} {c : Half}
    (h : (crcBit poly)^[n] c = 0) : c = 0 := by
  by_contra hne
  exact iterate_crcBit_ne_zero hodd (lowZeros_zero poly) (lowZeros_zero c) hne n h

/-! ### Long division in a register (rule R102, second sentence) -/

/-- A message bit at bit 0 of the register. -/
def bitWord (b : Bool) : Half := if b then 1 else 0

theorem getLsbD_bitWord (b : Bool) (i : Nat) : (bitWord b).getLsbD i = (decide (i = 0) && b) := by
  cases b <;> simp [bitWord]

theorem shiftLeft_or_bitWord (r : Half) (b : Bool) : (r <<< 1) ||| bitWord b = (r <<< 1) ^^^ bitWord b := by
  apply BitVec.eq_of_getLsbD_eq
  intro i hi
  rw [BitVec.getLsbD_or, BitVec.getLsbD_xor, BitVec.getLsbD_shiftLeft, getLsbD_bitWord]
  by_cases h : i = 0 <;> simp [h]

/-- A step of long division is a bit step and the message bit. -/
theorem longDivision_concat (poly : Half) (l : List Bool) (b : Bool) :
    Claims.longDivision poly (l ++ [b]) = crcBit poly (Claims.longDivision poly l) ^^^ bitWord b := by
  have hstep (r : Half) : (if r.msb then ((r <<< 1) ||| bitWord b) ^^^ poly else (r <<< 1) ||| bitWord b) =
      crcBit poly r ^^^ bitWord b := by
    rw [shiftLeft_or_bitWord]
    cases h : r.msb with
    | false => rw [crcBit_of_msb_false h, if_neg Bool.false_ne_true]
    | true =>
      rw [crcBit_of_msb_true h, if_pos rfl]
      ac_rfl
  rw [← hstep]
  simp only [Claims.longDivision, List.foldl_append]
  rfl

/-- Long division of `l ++ m` runs on from the register that `l` leaves, and adds what `m` alone gives. -/
theorem longDivision_append (poly : Half) (l m : List Bool) :
    Claims.longDivision poly (l ++ m) =
      (crcBit poly)^[m.length] (Claims.longDivision poly l) ^^^ Claims.longDivision poly m := by
  induction m using List.reverseRecOn with
  | nil => simp [Claims.longDivision]
  | append_singleton m b ih =>
    rw [← List.append_assoc, longDivision_concat, ih, crcBit_xor, longDivision_concat, BitVec.xor_assoc,
      List.length_append, List.length_singleton, Function.iterate_succ_apply']

theorem longDivision_zeros (poly : Half) (n : Nat) : Claims.longDivision poly (List.replicate n false) = 0 := by
  induction n with
  | zero => rfl
  | succ n ih =>
    rw [List.replicate_succ', longDivision_concat, ih, crcBit_zero]
    rfl

/-- Up to sixteen bits are only shifted in. -/
theorem getLsbD_longDivision (poly : Half) {m : List Bool} (h : m.length ≤ 16) {i : Nat} (hi : i < 16) :
    (Claims.longDivision poly m).getLsbD i = m.reverse.getD i false := by
  induction m using List.reverseRecOn generalizing i with
  | nil => simp [Claims.longDivision]
  | append_singleton m b ih =>
    rw [List.length_append, List.length_singleton] at h
    have hmsb : (Claims.longDivision poly m).msb = false := by
      rw [BitVec.msb_eq_getLsbD_last, ih (by omega) (by decide)]
      exact List.getD_eq_default _ _ (by rw [List.length_reverse]; omega)
    rw [longDivision_concat, crcBit_of_msb_false hmsb, BitVec.getLsbD_xor, BitVec.getLsbD_shiftLeft, getLsbD_bitWord,
      List.reverse_append, List.reverse_singleton]
    cases i with
    | zero => simp
    | succ i => simp [hi, ih (by omega : m.length ≤ 16) (by omega : i < 16)]

theorem bits_concat (s : Bytes) (b : Byte) : Claims.bits (s ++ [b]) = Claims.bits s ++ Claims.bits [b] :=
  List.flatMap_append

theorem reverse_bits_singleton (b : Byte) : (Claims.bits [b]).reverse = (List.range 8).map b.getLsbD := rfl

theorem longDivision_bits_singleton (poly : Half) (b : Byte) :
    Claims.longDivision poly (Claims.bits [b]) = byteAtBottom b := by
  apply BitVec.eq_of_getLsbD_eq
  intro i hi
  rw [getLsbD_longDivision poly (by simp [Claims.bits]) hi, reverse_bits_singleton, byteAtBottom, BitVec.getLsbD_append]
  by_cases h : i < 8 <;> simp [h]

theorem longDivision_bits_concat (poly : Half) (bs : Bytes) (b : Byte) :
    Claims.longDivision poly (Claims.bits (bs ++ [b])) =
      (crcBit poly)^[8] (Claims.longDivision poly (Claims.bits bs)) ^^^ byteAtBottom b := by
  rw [bits_concat, longDivision_append, longDivision_bits_singleton]
  rfl

/-- The CRC register is sixteen bit steps ahead of the long division: a byte enters it at the top. -/
theorem iterate_longDivision_bits (poly : Half) (bs : Bytes) :
    (crcBit poly)^[16] (Claims.longDivision poly (Claims.bits bs)) = crc16 poly bs := by
  induction bs using List.reverseRecOn with
  | nil => exact iterate_crcBit_zero poly 16
  | append_singleton bs b ih =>
    rw [longDivision_bits_concat, crc16_concat, crcByte_eq_iterate, ← ih, ← iterate_crcBit_byteAtBottom poly b,
      iterate_crcBit_xor, iterate_crcBit_xor]
    simp only [← Function.iterate_add_apply]

theorem longDivision_bits_zeros (poly : Half) (bs : Bytes) :
    Claims.longDivision poly (Claims.bits bs ++ List.replicate 16 false) = crc16 poly bs := by
  rw [longDivision_append, longDivision_zeros, List.length_replicate, iterate_longDivision_bits]
  exact BitVec.xor_zero

/-! ### The register as a polynomial over GF(2) (rules R101, R102) -/

section

open Polynomial

/-- A bit as a coefficient. -/
noncomputable def bitPoly (b : Bool) : (ZMod 2)[X] := if b then 1 else 0

@[simp] theorem bitPoly_false : bitPoly false = 0 := rfl

@[simp] theorem bitPoly_true : bitPoly true = 1 := rfl

theorem bitPoly_xor (a b : Bool) : bitPoly (a ^^ b) = bitPoly a + bitPoly b := by
  cases a <;> cases b <;> simp [CharTwo.add_self_eq_zero]

theorem polyOf_concat (l : List Bool) (b : Bool) :
    Claims.polyOf (l ++ [b]) = Claims.polyOf l * X + bitPoly b := by
  simp [Claims.polyOf, bitPoly]

theorem polyOf_append (l m : List Bool) :
    Claims.polyOf (l ++ m) = Claims.polyOf l * X ^ m.length + Claims.polyOf m := by
  induction m using List.reverseRecOn with
  | nil => simp [Claims.polyOf]
  | append_singleton m b ih =>
    rw [← List.append_assoc, polyOf_concat, ih, polyOf_concat, List.length_append, List.length_singleton, pow_succ]
    ring

theorem polyOf_singleton (b : Bool) : Claims.polyOf [b] = bitPoly b := by
  simp [Claims.polyOf, bitPoly]

theorem polyOf_zeros (n : Nat) : Claims.polyOf (List.replicate n false) = 0 := by
  induction n with
  | zero => rfl
  | succ n ih => simp [List.replicate_succ', polyOf_concat, ih]

theorem degree_polyOf_lt (l : List Bool) : (Claims.polyOf l).degree < l.length := by
  induction l using List.reverseRecOn with
  | nil => simp [Claims.polyOf]
  | append_singleton l b ih =>
    rw [degree_lt_iff_coeff_zero] at ih ⊢
    rintro (_ | m) hm
    · simp at hm
    · have hle : l.length ≤ m := by simpa using hm
      have hconst : (bitPoly b).coeff (m + 1) = 0 := by cases b <;> simp [coeff_one]
      rw [polyOf_concat, coeff_add, coeff_mul_X, ih m hle, hconst, add_zero]

theorem polyOf_zipWith_xor {l m : List Bool} (h : l.length = m.length) :
    Claims.polyOf (List.zipWith (· ^^ ·) l m) = Claims.polyOf l + Claims.polyOf m := by
  induction l generalizing m with
  | nil => obtain rfl := List.length_eq_zero_iff.mp h.symm; simp [Claims.polyOf]
  | cons a l ih =>
    obtain ⟨b, m, rfl⟩ := List.exists_cons_of_length_eq_add_one h.symm
    have hlen : l.length = m.length := Nat.succ.inj h
    have hcons (c : Bool) (n : List Bool) : Claims.polyOf (c :: n) = bitPoly c * X ^ n.length + Claims.polyOf n := by
      rw [← polyOf_singleton, ← polyOf_append, List.singleton_append]
    rw [List.zipWith_cons_cons, hcons, hcons, hcons, ih hlen, bitPoly_xor, List.length_zipWith, hlen, Nat.min_self]
    ring

/-- A register as a polynomial, bit 15 the coefficient of `x^15`. -/
noncomputable abbrev halfPoly (v : Half) : (ZMod 2)[X] := Claims.polyOf (Claims.halfBits v)

theorem halfPoly_xor (a b : Half) : halfPoly (a ^^^ b) = halfPoly a + halfPoly b := by
  have hbits : Claims.halfBits (a ^^^ b) = List.zipWith (· ^^ ·) (Claims.halfBits a) (Claims.halfBits b) := by
    simp [Claims.halfBits, List.zipWith_map]
  rw [halfPoly, hbits]
  exact polyOf_zipWith_xor rfl

theorem halfPoly_bitWord (b : Bool) : halfPoly (bitWord b) = bitPoly b := by
  have hbits : Claims.halfBits (bitWord b) = List.replicate 15 false ++ [b] := by cases b <;> decide
  rw [halfPoly, hbits, polyOf_concat, polyOf_zeros, zero_mul, zero_add]

/-- The generator `G(x) = x^16 + POLY(x)`. -/
noncomputable abbrev generator (poly : Half) : (ZMod 2)[X] := X ^ 16 + halfPoly poly

theorem degree_halfPoly_lt (v : Half) : (halfPoly v).degree < (16 : ℕ) :=
  degree_polyOf_lt (Claims.halfBits v)

/-- A shift is a multiplication by `x` that loses `x^16`. -/
theorem halfPoly_shiftLeft_one (c : Half) : halfPoly (c <<< 1) = halfPoly c * X + bitPoly c.msb * X ^ 16 := by
  have hbits : Claims.halfBits c = [c.msb] ++ (Claims.halfBits c).tail := rfl
  have hshift : Claims.halfBits (c <<< 1) = (Claims.halfBits c).tail ++ [false] := by
    simp [Claims.halfBits, List.range_succ]
  have hlen : (Claims.halfBits c).tail.length = 15 := rfl
  generalize (Claims.halfBits c).tail = t at hbits hshift hlen
  rw [halfPoly, halfPoly, hshift, hbits, polyOf_concat, polyOf_append, polyOf_singleton, hlen, bitPoly_false]
  linear_combination -CharTwo.add_self_eq_zero (bitPoly c.msb * X ^ 16)

/-- A bit step is a multiplication by `x`, less `G` when the top bit is set. -/
theorem halfPoly_crcBit (poly c : Half) :
    halfPoly (crcBit poly c) = halfPoly c * X + bitPoly c.msb * generator poly := by
  cases h : c.msb with
  | false => rw [crcBit_of_msb_false h, halfPoly_shiftLeft_one, h, bitPoly_false, zero_mul, zero_mul]
  | true =>
    rw [crcBit_of_msb_true h, halfPoly_xor, halfPoly_shiftLeft_one, h, bitPoly_true]
    ring

/-- What long division leaves differs from the message by a multiple of `G`. -/
theorem halfPoly_longDivision (poly : Half) (l : List Bool) :
    ∃ q, halfPoly (Claims.longDivision poly l) + generator poly * q = Claims.polyOf l := by
  induction l using List.reverseRecOn with
  | nil =>
    have hzero : halfPoly (Claims.longDivision poly []) = bitPoly false := halfPoly_bitWord false
    exact ⟨0, by rw [hzero, mul_zero, add_zero]; rfl⟩
  | append_singleton l b ih =>
    obtain ⟨q, hq⟩ := ih
    refine ⟨q * X + bitPoly (Claims.longDivision poly l).msb, ?_⟩
    rw [longDivision_concat, halfPoly_xor, halfPoly_crcBit, halfPoly_bitWord, polyOf_concat, ← hq]
    linear_combination CharTwo.add_self_eq_zero (bitPoly (Claims.longDivision poly l).msb * generator poly)

theorem halfPoly_longDivision_eq_modByMonic (poly : Half) (l : List Bool) :
    halfPoly (Claims.longDivision poly l) = Claims.polyOf l %ₘ generator poly := by
  obtain ⟨q, hq⟩ := halfPoly_longDivision poly l
  have hmonic : (generator poly).Monic := monic_X_pow_add (degree_halfPoly_lt poly)
  have hdegree : (generator poly).degree = (16 : ℕ) := by
    rw [degree_add_eq_left_of_degree_lt (by rw [degree_X_pow]; exact degree_halfPoly_lt poly), degree_X_pow]
  have hlt : (halfPoly (Claims.longDivision poly l)).degree < (generator poly).degree := by
    rw [hdegree]
    exact degree_halfPoly_lt _
  obtain ⟨-, hrem⟩ := div_modByMonic_unique q _ hmonic ⟨hq, hlt⟩
  exact hrem.symm

end

/-! ### The obligations -/

/-- Settles O14: a byte enters by `b ++ 0`, and the top bit is bit 15. -/
theorem crc16Computes : Obligations.Crc16Computes := by
  refine ⟨fun poly => ⟨rfl, fun bs b => ?_⟩, fun _ _ => rfl⟩
  rw [crc16_concat, crcByte_eq_iterate, byteAtTop_eq_shiftLeft]
  rfl

/-- Settles O15: from the zero register a zero byte leaves it (`crcByte_zero`). -/
theorem crc16LeadingZerosDoNotCount : Obligations.Crc16LeadingZerosDoNotCount := by
  intro poly k bs
  refine ⟨crc16_zeros_append poly k bs, crc16_zeros poly k, ?_⟩
  exact (crcByte_eq_iterate poly 0 1).trans (iterate_crcBit_twoPow poly (e := 8) (by decide) rfl 0)

/-- Settles O16: byte by byte, from any two registers (`foldl_crcByte_zipWith_xor`). -/
theorem crc16IsLinear : Obligations.Crc16IsLinear :=
  fun poly _ _ hlen => foldl_crcByte_zipWith_xor poly hlen 0 0

/-- Settles O17: the two bytes are the register, and cancel it. -/
theorem crc16ResidueIsZero : Obligations.Crc16ResidueIsZero :=
  fun poly p => crc16_append_own_bytes (hiByte_append_loByte (crc16 poly p)).symm

/-- Settles O18: the change is that of a string with one bit set, which no number of bit steps makes zero. -/
theorem crc16SeesEveryBitFlip : Obligations.Crc16SeesEveryBitFlip := by
  intro cfg p q b k hk heq
  have hbit : (byteAtTop (1 <<< k : Nat)).toNat = 2 ^ (k + 8) := by
    have hpow : 2 ^ k < 2 ^ 8 := Nat.pow_lt_pow_right (by decide) hk
    rw [toNat_byteAtTop, BitVec.natCast_eq_ofNat, BitVec.toNat_ofNat, Nat.one_shiftLeft, Nat.mod_eq_of_lt hpow, pow_add]
  rw [crc16_append _ (p ++ _), crc16_append _ (p ++ _), crc16_concat, crc16_concat, crcByte_xor_byte,
    foldl_crcByte_xor, ← Function.iterate_add_apply] at heq
  exact iterate_crcBit_twoPow_ne_zero (cfg_poly_ne_zero cfg) (by omega) hbit _
    ((BitVec.xor_right_inj _).mp (heq.trans BitVec.xor_zero.symm))

/-- Settles O19: the sixteen zero bits are the sixteen bit steps by which the CRC register is ahead. -/
theorem crc16IsLongDivision : Obligations.Crc16IsLongDivision :=
  fun poly bs => (longDivision_bits_zeros poly bs).symm

/-- Settles O20: sixteen more zero bits are a factor `x^16`. -/
theorem crc16IsPolynomialRemainder : Obligations.Crc16IsPolynomialRemainder := by
  intro poly bs
  have hmod := halfPoly_longDivision_eq_modByMonic poly (Claims.bits bs ++ List.replicate 16 false)
  rwa [longDivision_bits_zeros, polyOf_append, polyOf_zeros, add_zero, List.length_replicate] at hmod

/-- Settles O22: the bytes agree exactly when the register and the checksum cancel, and with an odd `POLY` nothing
else ends at zero. -/
theorem crcChkComparesChecksum : Obligations.CrcChkComparesChecksum := by
  intro s f guarded r
  have hok : (crcChkOp s).crcOk = true ↔ r.extractLsb' 8 8 = f.checksum0 ∧ r.extractLsb' 0 8 = f.checksum1 :=
    crcOk_eq_true_iff s
  have hword := hok.trans (bytes_eq_iff r f.checksum0 f.checksum1)
  refine ⟨_, rfl, hok, fun h => crc16_append_own_bytes (hword.mp h), fun hodd hzero => ?_,
    crcOk_of_default⟩
  rw [crc16_concat_two] at hzero
  exact hword.mpr (BitVec.xor_eq_zero_iff.mp (iterate_crcBit_eq_zero hodd hzero))

/-- Settles O21: CRC.GEN writes these three fields by its definition. -/
theorem crcGenWritesChecksum : Obligations.CrcGenWritesChecksum := fun _ => rfl

end Sys2Proof.Machine

/-! SUPPORT. Proofs of the statements about the stuffer and destuffer (41_stuffing.md): the escapes of a byte string as
one body, and the four rows PACK, STUFF, DESTUFF and UNPACK. -/

namespace Sys2Proof.Machine

/-! ### The body of a stuffed frame (rules R121, R124, R129, R130) -/

theorem length_flatMap_escape (m : Bytes) :
    (m.flatMap escape).length = m.length + m.countP (fun b => b == flagByte || b == escByte) := by
  induction m with
  | nil => rfl
  | cons b m ih =>
    rw [List.flatMap_cons, List.length_append, ih, List.countP_cons, List.length_cons]
    by_cases h : b = flagByte ∨ b = escByte
    · simp only [escape_reserved h, List.length_cons, List.length_nil, Bool.or_eq_true, beq_iff_eq, if_pos h]
      omega
    · simp only [escape_ordinary h, List.length_cons, List.length_nil, Bool.or_eq_true, beq_iff_eq, if_neg h]
      omega

/-- The scan of DESTUFF takes one escape after the other, and none dangles. -/
theorem destuffBody_flatMap_escape (m : Bytes) : destuffBody (m.flatMap escape) = some m := by
  induction m with
  | nil => rfl
  | cons b m ih => rw [List.flatMap_cons, destuffBody_escape, ih, Option.map_some]

/-- What rule R130 says of index `i` of a body: no FLAG, and ESC only as the first byte of one of its two pairs. -/
def CanonicalAt (body : Bytes) (i : Nat) : Prop :=
  ∀ b, body[i]? = some b →
    b ≠ flagByte ∧ (b = escByte → body[i + 1]? = some 0x5D ∨ body[i + 1]? = some 0x5E)

theorem canonicalAt_cons_succ (b : Byte) (body : Bytes) (i : Nat) :
    CanonicalAt (b :: body) (i + 1) ↔ CanonicalAt body i := by
  simp only [CanonicalAt, List.getElem?_cons_succ]

theorem canonicalAt_zero_of_ordinary {b : Byte} (h : ¬ (b = flagByte ∨ b = escByte)) (body : Bytes) :
    CanonicalAt (b :: body) 0 := by
  rintro _ ⟨⟩
  obtain ⟨hflag, hesc⟩ := not_or.mp h
  exact ⟨hflag, fun e => absurd e hesc⟩

theorem xor_escMask_eq_of_reserved {b : Byte} (h : b = flagByte ∨ b = escByte) :
    b ^^^ escMask = 0x5D ∨ b ^^^ escMask = 0x5E := by
  obtain rfl | rfl := h
  · exact .inl rfl
  · exact .inr rfl

theorem xor_escMask_not_reserved {b : Byte} (h : b = flagByte ∨ b = escByte) :
    ¬ (b ^^^ escMask = flagByte ∨ b ^^^ escMask = escByte) := by
  obtain rfl | rfl := h <;> decide

theorem canonicalAt_zero_of_pair {x : Byte} (h : x = 0x5D ∨ x = 0x5E) (body : Bytes) :
    CanonicalAt (escByte :: x :: body) 0 := by
  rintro _ ⟨⟩
  exact ⟨by decide, fun _ => h.imp (congrArg some) (congrArg some)⟩

/-- Each byte of a message puts itself into the body, or a pair whose second byte is not reserved. -/
theorem canonicalAt_flatMap_escape (m : Bytes) (i : Nat) : CanonicalAt (m.flatMap escape) i := by
  induction m generalizing i with
  | nil => exact nofun
  | cons b m ih =>
    rw [List.flatMap_cons]
    by_cases h : b = flagByte ∨ b = escByte
    · rw [escape_reserved h]
      match i with
      | 0 => exact canonicalAt_zero_of_pair (xor_escMask_eq_of_reserved h) _
      | 1 => exact (canonicalAt_cons_succ _ _ 0).mpr (canonicalAt_zero_of_ordinary (xor_escMask_not_reserved h) _)
      | i + 2 => exact (canonicalAt_cons_succ _ _ (i + 1)).mpr ((canonicalAt_cons_succ _ _ i).mpr (ih i))
    · rw [escape_ordinary h]
      match i with
      | 0 => exact canonicalAt_zero_of_ordinary h _
      | i + 1 => exact (canonicalAt_cons_succ _ _ i).mpr (ih i)

/-! ### The message layout (rules R120, R129) -/

/-- UNPACK undoes PACK for a Frame whose `length` is that of its `net_packet` (rule R39). -/
theorem unpackMessage_packMessage {f : Frame} (h : f.length.toNat = f.netPacket.length) :
    unpackMessage (packMessage f) = some f :=
  unpackMessage_fields f.control0 f.control1 f.addressing0 f.addressing1 f.length f.checksum0 f.checksum1
    f.netPacket h.symm

/-! ### The rows DESTUFF and UNPACK (rules R125, R126, R128, R131) -/

theorem dispose_malformed_eq_ended (s : State) : dispose .malformed s = Claims.ended s false .malformed := rfl

theorem length_bodyOf (f : Bytes) : (bodyOf f).length = f.length - 2 := by
  simp only [bodyOf, slice, List.length_take, List.length_drop]
  omega

theorem delimited_of_not_badDelimiters {f : Bytes} (h : ¬ Claims.BadDelimiters f) : delimited f = true :=
  Bool.eq_true_of_not_eq_false (mt (delimited_eq_false_iff f).mp h)

/-- DESTUFF of a buffer with other delimiters, or with a dangling escape, ends its RECV. -/
theorem exec_destuff_malformed {s : State} (h : delimited s.raw = false ∨ destuffBody (bodyOf s.raw) = none) :
    exec .destuff s = .next (Claims.ended s false .malformed) := by
  show Host.Outcome.next (destuffStage s).finish = _
  rw [destuffStage, ← dispose_malformed_eq_ended]
  cases hd : delimited s.raw with
  | false => rfl
  | true =>
    rw [if_pos rfl, h.resolve_left (by simp [hd])]
    rfl

theorem exec_unpack {s : State} {f : Frame} (h : unpackMessage s.msg = some f) :
    exec .unpack s = .next (returnsNothing (takeFrame f s)) := by
  show Host.Outcome.next (unpackStage s).finish = _
  rw [unpackStage, h]
  rfl

theorem exec_unpack_malformed {s : State} (h : unpackMessage s.msg = none) :
    exec .unpack s = .next (Claims.ended s false .malformed) := by
  show Host.Outcome.next (unpackStage s).finish = _
  rw [unpackStage, h]
  rfl

/-! ### The obligations -/

/-- Settles O25: one byte more for each reserved byte, of which there are none to all. -/
theorem stuffedLength : Obligations.StuffedLength := by
  have hlen (m : Bytes) : (stuffBytes m).length =
      m.length + m.countP (fun b => b == flagByte || b == escByte) + 2 := by
    rw [stuffBytes_length, length_flatMap_escape]
  refine ⟨hlen, fun f hf => ?_⟩
  have hcount := (packMessage f).countP_le_length (p := fun b => b == flagByte || b == escByte)
  rw [hlen, hf]
  rw [packMessage_length] at hcount ⊢
  omega

/-- Settles O26: the body of the stuffed message destuffs to it, and the fields of the packed one are read back. -/
theorem stuffAndPackRoundTrip : Obligations.StuffAndPackRoundTrip := by
  refine ⟨fun s => ?_, fun s g hlen => ?_⟩
  · have hbody : destuffBody (bodyOf (stuffBytes s.msg)) = some s.msg := by
      rw [bodyOf_stuffBytes, destuffBody_flatMap_escape]
    exact ⟨_, _, rfl, exec_destuff (delimited_stuffBytes s.msg) hbody, rfl, rfl⟩
  · exact ⟨_, _, rfl, exec_unpack (unpackMessage_packMessage hlen), rfl, rfl⟩

/-- Settles O27: the body is the escapes one after the other (`canonicalAt_flatMap_escape`), and the worked example
of the failing converse. -/
theorem stuffedBodyIsCanonical : Obligations.StuffedBodyIsCanonical := by
  refine ⟨fun m i => ?_, rfl, rfl⟩
  rw [bodyOf_stuffBytes]
  exact canonicalAt_flatMap_escape m i

/-- Settles O28: the loop of the rule is the machine's scan of the body (`destuff_eq`). -/
theorem destuffRunsTheLoop : Obligations.DestuffRunsTheLoop := by
  refine ⟨fun s m hdel hm => ?_, fun s _ hm => ?_, fun s hbad => ?_⟩
  · rw [exec_destuff (delimited_of_not_badDelimiters hdel) (destuff_eq s.raw ▸ hm), ← length_bodyOf]
    rfl
  · exact exec_destuff_malformed (.inr (destuff_eq s.raw ▸ hm))
  · exact exec_destuff_malformed (.inl ((delimited_eq_false_iff s.raw).mpr hbad))

/-- Settles O29: a message of the declared length gives its fields, and one that is M4 or M5 gives no Frame. -/
theorem unpackSplitsMessage : Obligations.UnpackSplitsMessage := by
  refine ⟨fun s c0 c1 a0 a1 len k0 k1 p hlen hmsg => ?_, fun s hbad => ?_⟩
  · exact exec_unpack (hmsg ▸ unpackMessage_fields c0 c1 a0 a1 len k0 k1 p hlen)
  · exact exec_unpack_malformed (by rw [unpackMessage_eq, if_pos hbad])

/-- Settles O23: the operation is `packMessage` of the registers, which has seven bytes beside the payload. -/
theorem packLaysOutMessage : Obligations.PackLaysOutMessage :=
  fun s => ⟨rfl, fun hlen => hlen ▸ packMessage_length s.frame⟩

/-- Settles O24: the operation is `stuffBytes` of the message, and `escape` is the escape of rule R121. -/
theorem stuffEscapesMessage : Obligations.StuffEscapesMessage := fun _ => rfl

end Sys2Proof.Machine

/-! SUPPORT. Proofs of the statements about fragmentation and reassembly (42_fragmentation.md): the receive stages and
the rows of the frame classes, RECV against the table of `error`, the slices of a packet, and the way of a packet's
frames through a receiver. -/

namespace Sys2Proof.Machine

/-! ### A receive stage run as a row (rules R154, R162, R163) -/

theorem exec_filter_passes {s : State} (h : accepts s.cfg s.frame = true) :
    exec .filter s = .next (returnsNothing s) := by
  show Host.Outcome.next (filterStage s).finish = _
  rw [filterStage, if_pos h, Stage.finish_goesOn]

theorem exec_filter_drops {s : State} (h : accepts s.cfg s.frame = false) :
    exec .filter s = .next (dispose .dropAddr s) := by
  show Host.Outcome.next (filterStage s).finish = _
  rw [filterStage, if_neg (by simp [h]), Stage.finish_ended]

theorem exec_gate_passes {s : State} (h : gated s.error s.frame = false) :
    exec .gate s = .next (returnsNothing s) := by
  show Host.Outcome.next (gateStage s).finish = _
  rw [gateStage, if_neg (by simp [h]), Stage.finish_goesOn]

theorem exec_gate_drops {s : State} (h : gated s.error s.frame = true) :
    exec .gate s = .next (dispose .dropQuarantine s) := by
  show Host.Outcome.next (gateStage s).finish = _
  rw [gateStage, if_pos h, Stage.finish_ended]

/-! ### The rows of the four classes (rules R170 to R176) -/

/-- REASM is REASM after the control bytes that are there already are put into the registers. -/
theorem exec_reasm_eq_setControl (s : State) :
    exec .reasm s = .next (reasmOp (setControl s.frame.control0 s.frame.control1 s)) := rfl

theorem exec_single (c0 : Byte) (s : State) : exec (.single c0) s = .next (reasmOp (setControl c0 0 s)) := rfl

theorem exec_first {c1 : Byte} (h : c1 ≠ 0) (s : State) :
    exec (.first c1) s = .next (reasmOp (setControl 0 c1 s)) := if_pos ((frameClass_first_iff 0 c1).mpr ⟨h, rfl⟩)

theorem exec_last {c : Byte} (h : c ≠ 0) (s : State) :
    exec (.last c) s = .next (reasmOp (setControl c c s)) := if_pos ((frameClass_last_iff c c).mpr ⟨h, rfl⟩)

theorem exec_middle {c0 c1 : Byte} (h : c1 ≠ 0 ∧ c0 ≠ 0 ∧ c0 ≠ c1) (s : State) :
    exec (.middle c0 c1) s = .next (reasmOp (setControl c0 c1 s)) := if_pos ((frameClass_middle_iff c0 c1).mpr h)

theorem reasmOp_overflow {s : State} (h1 : s.frame.control1 ≠ 0)
    (hroom : s.cfg.reasmMax < (reasmBase s).length + s.frame.length.toNat) :
    reasmOp s = dispose .dropOverflow s := by
  have hover : overflows s = true := decide_eq_true hroom
  obtain ⟨hcls, -⟩ | ⟨-, -, h⟩ | ⟨-, hfits, -⟩ | ⟨-, hfits, -⟩ := reasmOp_cases s
  · exact absurd ((frameClass_single_iff _ _).mp hcls) h1
  · exact h
  · simp [hover] at hfits
  · simp [hover] at hfits

theorem reasmOp_last {s : State} (h1 : s.frame.control1 ≠ 0) (hc : s.frame.control0 = s.frame.control1)
    (hroom : (reasmBase s).length + s.frame.length.toNat ≤ s.cfg.reasmMax) :
    reasmOp s = dispose .delivered s := by
  have hcls : s.frame.frameClass = .last := (frameClass_last_iff _ _).mpr ⟨h1, hc⟩
  have hfits := (overflows_eq_false_iff s).mpr hroom
  simp [reasmOp, hcls, disposeTested, hfits]

theorem reasmOp_buffered {s : State} (h1 : s.frame.control1 ≠ 0) (hc : s.frame.control0 ≠ s.frame.control1)
    (hroom : (reasmBase s).length + s.frame.length.toNat ≤ s.cfg.reasmMax) :
    reasmOp s = dispose .buffered s := by
  have hfits := (overflows_eq_false_iff s).mpr hroom
  obtain ⟨hcls, -⟩ | ⟨-, hover, -⟩ | ⟨hcls, -⟩ | ⟨-, -, h⟩ := reasmOp_cases s
  · exact absurd ((frameClass_single_iff _ _).mp hcls) h1
  · simp [hfits] at hover
  · exact absurd ((frameClass_last_iff _ _).mp hcls).2 hc
  · exact h

/-- A frame other than the first of its packet is appended to the buffer. -/
theorem reasmBase_of_control0_ne_zero {s : State} (h : s.frame.control0 ≠ 0) : reasmBase s = s.reasm := if_neg h

theorem errorAfterOverflow_of_notLast {f : Frame} (hc : f.control0 ≠ f.control1) (e : Bool) :
    errorAfterOverflow e f = true :=
  if_neg fun hcls => hc ((frameClass_last_iff _ _).mp hcls).2

theorem errorAfterOverflow_of_last {f : Frame} (h1 : f.control1 ≠ 0) (hc : f.control0 = f.control1) (e : Bool) :
    errorAfterOverflow e f = e :=
  if_pos ((frameClass_last_iff _ _).mpr ⟨h1, hc⟩)

theorem errorAfterQuarantine_of_notLast {f : Frame} (hc : f.control0 ≠ f.control1) (e : Bool) :
    errorAfterQuarantine e f = e :=
  if_neg fun hcls => hc ((frameClass_last_iff _ _).mp hcls).2

theorem errorAfterQuarantine_of_last {f : Frame} (h1 : f.control1 ≠ 0) (hc : f.control0 = f.control1) (e : Bool) :
    errorAfterQuarantine e f = false :=
  if_pos ((frameClass_last_iff _ _).mpr ⟨h1, hc⟩)

/-! ### RECV's transition function on a frame in hand (rules R166, R179) -/

/-- A RECV that goes on had a raw buffer within its bound, and is its transition function. -/
theorem recvLeaves_of_exec_recv {s t : State} {raw : Bytes} (h : exec (.recv raw) s = .next t) :
    RecvLeaves (Claims.recv s.cfg s.error s.reasm raw) s.events t := by
  by_cases hlen : raw.length ≤ 255
  · obtain ⟨t', ht', hleaves⟩ := exec_recv_leaves hlen s
    obtain rfl := Host.Outcome.next.inj (ht'.symm.trans h)
    exact hleaves
  · cases (if_neg hlen).symm.trans h

theorem recv_of_not_passes {cfg : Cfg} {raw : Bytes} {f : Frame} (hp : Claims.parse raw = some f)
    (hpass : ¬ Claims.Passes cfg f) (error : Bool) (reasm : Bytes) :
    Claims.recv cfg error reasm raw = ⟨error, reasm, [], true, .dropAddr⟩ := by
  rw [Claims.recv, hp]
  exact if_pos (not_or.mp hpass)

/-- The frame that passed the filter goes through the gate, the CRC check and the buffer. -/
theorem recv_of_passes {cfg : Cfg} {raw : Bytes} {f : Frame} (hp : Claims.parse raw = some f)
    (hpass : Claims.Passes cfg f) (error : Bool) (reasm : Bytes) :
    Claims.recv cfg error reasm raw =
      if error = true ∧ f.control1 ≠ 0 then
        ⟨if f.control0 = f.control1 then false else error, reasm, [], true, .dropQuarantine⟩
      else if ¬ Claims.CrcGood cfg.poly f then ⟨true, reasm, [], true, .dropCrc⟩
      else acceptFrame cfg error reasm f := by
  rw [Claims.recv, hp]
  exact if_neg (mt not_or.mpr (not_not.mpr hpass))

theorem acceptFrame_single {f : Frame} (h : f.control1 = 0) (cfg : Cfg) (error : Bool) (reasm : Bytes) :
    acceptFrame cfg error reasm f =
      ⟨error, reasm, [.deliver f.netPacket f.addressing0], true, .delivered⟩ := if_pos h

/-- What the payload of a fragment is appended to (rules R171, R172): nothing for `control[0] = 0`. -/
def fragmentBase (reasm : Bytes) (f : Frame) : Bytes := if f.control0 = 0 then [] else reasm

section
variable {cfg : Cfg} {reasm : Bytes} {f : Frame} (error : Bool)

theorem acceptFrame_overflow (h1 : f.control1 ≠ 0)
    (hroom : cfg.reasmMax < (fragmentBase reasm f).length + f.length.toNat) :
    acceptFrame cfg error reasm f =
      ⟨if f.control0 ≠ f.control1 then true else error, [], [], true, .dropOverflow⟩ := by
  rw [acceptFrame, if_neg h1]
  exact if_pos hroom

theorem acceptFrame_last (h1 : f.control1 ≠ 0) (hc : f.control0 = f.control1)
    (hroom : (fragmentBase reasm f).length + f.length.toNat ≤ cfg.reasmMax) :
    acceptFrame cfg error reasm f =
      ⟨error, [], [.deliver (fragmentBase reasm f ++ f.netPacket) f.addressing0], true, .delivered⟩ := by
  rw [acceptFrame, if_neg h1]
  exact (if_neg (Nat.not_lt.mpr hroom)).trans (if_pos hc)

theorem acceptFrame_buffered (h1 : f.control1 ≠ 0) (hc : f.control0 ≠ f.control1)
    (hroom : (fragmentBase reasm f).length + f.length.toNat ≤ cfg.reasmMax) :
    acceptFrame cfg error reasm f =
      ⟨error, fragmentBase reasm f ++ f.netPacket, [], true, .buffered⟩ := by
  rw [acceptFrame, if_neg h1]
  exact (if_neg (Nat.not_lt.mpr hroom)).trans (if_neg hc)

/-- A frame that passed every check is delivered, stored, or finds no room, which empties `reasm`. -/
theorem acceptFrame_cases (cfg : Cfg) (reasm : Bytes) (f : Frame) :
    (acceptFrame cfg error reasm f).disp = .delivered ∨ (acceptFrame cfg error reasm f).disp = .buffered ∨
      ((acceptFrame cfg error reasm f).disp = .dropOverflow ∧ (acceptFrame cfg error reasm f).reasm = []) := by
  unfold acceptFrame
  dsimp only
  split_ifs <;> simp

end

/-- What a RECV makes of `reasm` by its disposition (rule R179): it is kept by a drop, and emptied on overflow. -/
def DropsKeepReasm (reasm : Bytes) (o : Claims.RecvOut) : Prop :=
  (o.disp = .malformed ∨ o.disp = .dropAddr ∨ o.disp = .dropQuarantine ∨ o.disp = .dropCrc →
    o.reasm = reasm) ∧ (o.disp = .dropOverflow → o.reasm = [])

theorem acceptFrame_dropsKeepReasm (cfg : Cfg) (error : Bool) (reasm : Bytes) (f : Frame) :
    DropsKeepReasm reasm (acceptFrame cfg error reasm f) := by
  obtain hd | hd | ⟨hd, hempty⟩ := acceptFrame_cases error cfg reasm f
  · simp [DropsKeepReasm, hd]
  · simp [DropsKeepReasm, hd]
  · simp [DropsKeepReasm, hd, hempty]

/-- Every stage before the buffer ends with `reasm` as it was. -/
theorem recv_dropsKeepReasm (cfg : Cfg) (error : Bool) (reasm raw : Bytes) :
    DropsKeepReasm reasm (Claims.recv cfg error reasm raw) := by
  cases hp : Claims.parse raw with
  | none =>
    rw [recv_of_parse_none hp]
    exact ⟨fun _ => rfl, nofun⟩
  | some f =>
    by_cases hpass : Claims.Passes cfg f
    · rw [recv_of_passes hp hpass]
      split_ifs with hgate hlast hcrc
      · exact ⟨fun _ => rfl, nofun⟩
      · exact ⟨fun _ => rfl, nofun⟩
      · exact acceptFrame_dropsKeepReasm cfg error reasm f
      · exact ⟨fun _ => rfl, nofun⟩
    · rw [recv_of_not_passes hp hpass]
      exact ⟨fun _ => rfl, nofun⟩

/-! ### The table of `error` (rule R166) -/

/-- A row of the table as what RECV makes of the persistent state; its `status` is 1. -/
def outOfRow (row : Bool × Disposition × Bytes × List Event) : Claims.RecvOut :=
  ⟨row.1, row.2.2.1, row.2.2.2, true, row.2.1⟩

theorem errorTable_quarantine {cls : FrameClass} (h : cls ≠ .single) (ok ovf : Bool) (reasm payload : Bytes)
    (src : Byte) :
    Claims.errorTable true cls ok ovf reasm payload src =
      (if cls = .last then false else true, .dropQuarantine, reasm, []) := by
  cases cls with
  | single => exact absurd rfl h
  | first | middle | last => rfl

theorem errorTable_crc {error : Bool} {cls : FrameClass} (h : ¬ (error = true ∧ cls ≠ .single)) (ovf : Bool)
    (reasm payload : Bytes) (src : Byte) :
    Claims.errorTable error cls false ovf reasm payload src = (true, .dropCrc, reasm, []) := by
  cases error with
  | false => cases cls <;> rfl
  | true =>
    obtain rfl : cls = .single := not_not.mp fun hcls => h ⟨rfl, hcls⟩
    rfl

theorem errorTable_single (error ovf : Bool) (reasm payload : Bytes) (src : Byte) :
    Claims.errorTable error .single true ovf reasm payload src =
      (error, .delivered, reasm, [.deliver payload src]) := by
  cases error <;> rfl

theorem errorTable_overflow {cls : FrameClass} (h : cls ≠ .single) (reasm payload : Bytes) (src : Byte) :
    Claims.errorTable false cls true true reasm payload src =
      (if cls = .last then false else true, .dropOverflow, [], []) := by
  cases cls with
  | single => exact absurd rfl h
  | first | middle | last => rfl

theorem errorTable_stored {cls : FrameClass} (h : cls = .first ∨ cls = .middle) (reasm payload : Bytes)
    (src : Byte) :
    Claims.errorTable false cls true false reasm payload src =
      (false, .buffered, (if cls = .first then [] else reasm) ++ payload, []) := by
  obtain rfl | rfl := h <;> rfl

/-- The bytes that a class's payload goes behind in the table: none for FIRST. -/
theorem fragmentBase_eq {f : Frame} (h1 : f.control1 ≠ 0) (reasm : Bytes) :
    fragmentBase reasm f = if frameClass f.control0 f.control1 = .first then [] else reasm := by
  simp only [fragmentBase, frameClass_first_iff, h1, ne_eq, not_false_eq_true, true_and]

theorem frameClass_last_iff_of_fragment {c0 c1 : Byte} (h1 : c1 ≠ 0) : frameClass c0 c1 = .last ↔ c0 = c1 :=
  (frameClass_last_iff c0 c1).trans (and_iff_right h1)

/-- A fragment that is not LAST is FIRST or MIDDLE. -/
theorem frameClass_of_notLast {c0 c1 : Byte} (h1 : c1 ≠ 0) (hc : c0 ≠ c1) :
    frameClass c0 c1 = .first ∨ frameClass c0 c1 = .middle := by
  by_cases h0 : c0 = 0
  · exact .inl ((frameClass_first_iff c0 c1).mpr ⟨h1, h0⟩)
  · exact .inr ((frameClass_middle_iff c0 c1).mpr ⟨h1, h0, hc⟩)

/-- A frame that passed every check takes its class's row with a good CRC. -/
theorem acceptFrame_eq_row (cfg : Cfg) {error : Bool} (reasm : Bytes) {f : Frame}
    (hlen : f.length.toNat = f.netPacket.length) (hgate : ¬ (error = true ∧ f.control1 ≠ 0)) :
    let cls := frameClass f.control0 f.control1
    let base := if cls = .first then [] else reasm
    acceptFrame cfg error reasm f =
      outOfRow (Claims.errorTable error cls true (decide (base.length + f.netPacket.length > cfg.reasmMax))
        reasm f.netPacket f.addressing0) := by
  intro cls base
  by_cases h1 : f.control1 = 0
  · have hcls : cls = .single := (frameClass_single_iff _ _).mpr h1
    rw [acceptFrame_single h1, hcls, errorTable_single]
    rfl
  obtain rfl : error = false := Bool.eq_false_iff.mpr fun he => hgate ⟨he, h1⟩
  have hfragment : cls ≠ .single := mt (frameClass_single_iff _ _).mp h1
  have hlast : cls = .last ↔ f.control0 = f.control1 := frameClass_last_iff_of_fragment h1
  have hbase : fragmentBase reasm f = base := fragmentBase_eq h1 reasm
  by_cases hroom : base.length + f.netPacket.length > cfg.reasmMax
  · rw [acceptFrame_overflow _ h1 (by rwa [hbase, hlen]), decide_eq_true hroom, errorTable_overflow hfragment,
      outOfRow]
    simp only [hlast, ne_eq, ite_not]
  have hfits : (fragmentBase reasm f).length + f.length.toNat ≤ cfg.reasmMax := by
    rw [hbase, hlen]
    exact Nat.le_of_not_lt hroom
  rw [decide_eq_false hroom]
  by_cases hc : f.control0 = f.control1
  · have hreasm : base = reasm := if_neg (by simp [hlast.mpr hc])
    rw [acceptFrame_last _ h1 hc hfits, hbase, hreasm, hlast.mpr hc]
    rfl
  · rw [acceptFrame_buffered _ h1 hc hfits, hbase, errorTable_stored (frameClass_of_notLast h1 hc)]
    rfl

/-- For a frame that passed the filter RECV's transition function is the table. -/
theorem recv_eq_row {cfg : Cfg} {raw : Bytes} {f : Frame} (hp : Claims.parse raw = some f)
    (hpass : Claims.Passes cfg f) (error : Bool) (reasm : Bytes) :
    let cls := frameClass f.control0 f.control1
    let base := if cls = .first then [] else reasm
    Claims.recv cfg error reasm raw =
      outOfRow (Claims.errorTable error cls (decide (Claims.CrcGood cfg.poly f))
        (decide (base.length + f.netPacket.length > cfg.reasmMax)) reasm f.netPacket f.addressing0) := by
  intro cls base
  have hfragment : cls ≠ .single ↔ f.control1 ≠ 0 := not_congr (frameClass_single_iff _ _)
  rw [recv_of_passes hp hpass]
  by_cases hgate : error = true ∧ f.control1 ≠ 0
  · obtain ⟨rfl, h1⟩ := hgate
    have hlast : cls = .last ↔ f.control0 = f.control1 := frameClass_last_iff_of_fragment h1
    rw [if_pos ⟨rfl, h1⟩, errorTable_quarantine (hfragment.mpr h1), outOfRow]
    simp only [hlast]
  rw [if_neg hgate]
  by_cases hcrc : Claims.CrcGood cfg.poly f
  · rw [if_neg (not_not.mpr hcrc), decide_eq_true hcrc, acceptFrame_eq_row cfg reasm (parse_length hp) hgate]
  · rw [if_pos hcrc, decide_eq_false hcrc, errorTable_crc (by rwa [hfragment])]
    rfl

/-! ### `num_frames` (rule R150) -/

/-- No smaller positive number of frames holds the packet. -/
theorem frameCount_le_of_le_mul {L C k : Nat} (hC : 1 ≤ C) (hk : 1 ≤ k) (h : L ≤ k * C) : frameCount L C ≤ k := by
  rcases Nat.eq_zero_or_pos L with rfl | hL
  · rwa [frameCount_zero C hC]
  · have hlt : (frameCount L C - 1) * C < k * C := Nat.lt_of_lt_of_le (frameCount_pred_mul_lt L C hC hL) h
    have := Nat.lt_of_mul_lt_mul_right hlt
    omega

theorem frameCount_eq_one_of_le {L C : Nat} (hC : 1 ≤ C) (h : L ≤ C) : frameCount L C = 1 :=
  Nat.le_antisymm (frameCount_le_of_le_mul hC le_rfl (by rwa [Nat.one_mul])) (frameCount_pos L C)

/-- A packet of more than one frame is not empty. -/
theorem pos_of_two_le_frameCount {L C : Nat} (hC : 1 ≤ C) (h : 2 ≤ frameCount L C) : 0 < L := by
  rcases Nat.eq_zero_or_pos L with rfl | hL
  · rw [frameCount_zero C hC] at h
    omega
  · exact hL

/-- Rounding up by adding `C - 1` before the division is the quotient, and one more for a remainder. -/
theorem numFrames_eq_frameCount (L : Nat) {C : Nat} (hC : 1 ≤ C) : Claims.numFrames L C = frameCount L C := by
  have hdiv : C * (L / C) + L % C = L := Nat.div_add_mod L C
  have hmod : L % C < C := Nat.mod_lt L hC
  rw [Claims.numFrames, frameCount]
  congr 1
  refine (Nat.div_eq_of_lt_le ?_ ?_).symm
  · split <;> rw [Nat.mul_comm, Nat.mul_add] <;> omega
  · split <;> rw [Nat.mul_comm, Nat.mul_add, Nat.mul_add] <;> omega

/-! ### The slices of a packet (rules R151, R153) -/

theorem fragPayload_of_not_last {n i : Nat} (h : i + 1 < n) (C : Nat) (pkt : Bytes) :
    fragPayload C pkt n i = (pkt.drop (i * C)).take C := by
  rw [fragPayload, if_pos (by omega), slice, Nat.add_sub_cancel_left]

theorem fragPayload_last (C : Nat) (pkt : Bytes) (i : Nat) :
    fragPayload C pkt (i + 1) i = pkt.drop (i * C) := by
  rw [fragPayload, if_neg (by omega), slice, Nat.add_sub_cancel]
  exact List.take_of_length_le (by simp)

/-- A slice behind what precedes it in the packet reaches to the next slice. -/
theorem take_append_fragPayload {n i : Nat} (h : i + 1 < n) (C : Nat) (pkt : Bytes) :
    pkt.take (i * C) ++ fragPayload C pkt n i = pkt.take ((i + 1) * C) := by
  rw [fragPayload_of_not_last h, Nat.succ_mul, List.take_add]

theorem take_append_fragPayload_last (C : Nat) (pkt : Bytes) (i : Nat) :
    pkt.take (i * C) ++ fragPayload C pkt (i + 1) i = pkt := by
  rw [fragPayload_last, List.take_append_drop]

theorem length_fragPayload_last (C : Nat) (pkt : Bytes) (i : Nat) :
    (fragPayload C pkt (i + 1) i).length = pkt.length - i * C := by
  rw [fragPayload_last, List.length_drop]

theorem flatMap_fragPayload_of_lt {n k : Nat} (h : k < n) (C : Nat) (pkt : Bytes) :
    (List.range k).flatMap (fragPayload C pkt n) = pkt.take (k * C) := by
  induction k with
  | zero => simp
  | succ k ih => simp [List.range_succ, ih (by omega), take_append_fragPayload h]

theorem flatMap_fragPayload {n : Nat} (hn : 1 ≤ n) (C : Nat) (pkt : Bytes) :
    (List.range n).flatMap (fragPayload C pkt n) = pkt := by
  obtain ⟨k, rfl⟩ := Nat.exists_eq_add_of_le' hn
  simp [List.range_succ, flatMap_fragPayload_of_lt, take_append_fragPayload_last]

section
variable {C : Nat} (hC : 1 ≤ C) (pkt : Bytes)
include hC

theorem length_fragPayload_of_not_last {i : Nat} (h : i + 1 < frameCount pkt.length C) :
    (fragPayload C pkt (frameCount pkt.length C) i).length = C := by
  have hpos : 0 < pkt.length := pos_of_two_le_frameCount hC (by omega)
  have hlt := frameCount_pred_mul_lt pkt.length C hC hpos
  have hle : (i + 1) * C ≤ (frameCount pkt.length C - 1) * C := Nat.mul_le_mul_right C (by omega)
  rw [Nat.succ_mul] at hle
  rw [fragPayload_of_not_last h, List.length_take, List.length_drop]
  omega

theorem length_fragPayload_last_le {i : Nat} (h : i + 1 = frameCount pkt.length C) :
    (fragPayload C pkt (frameCount pkt.length C) i).length ≤ C := by
  have hle := le_frameCount_mul pkt.length C hC
  rw [← h, Nat.succ_mul] at hle
  rw [← h, length_fragPayload_last]
  omega

theorem length_fragPayload_last_pos {i : Nat} (h : i + 1 = frameCount pkt.length C) (hpkt : pkt ≠ []) :
    1 ≤ (fragPayload C pkt (frameCount pkt.length C) i).length := by
  have hlt := frameCount_pred_mul_lt pkt.length C hC (List.length_pos_of_ne_nil hpkt)
  rw [← h, Nat.add_sub_cancel] at hlt
  rw [← h, length_fragPayload_last]
  omega

theorem length_fragPayload_le {i : Nat} (h : i < frameCount pkt.length C) :
    (fragPayload C pkt (frameCount pkt.length C) i).length ≤ C := by
  rcases Nat.lt_or_eq_of_le (Nat.succ_le_of_lt h) with hlt | hlast
  · exact (length_fragPayload_of_not_last hC pkt hlt).le
  · exact length_fragPayload_last_le hC pkt hlast

end

theorem fragPayload_nil (C n i : Nat) : fragPayload C [] n i = [] := by
  simp [fragPayload, slice]

/-! ### The control bytes of a packet's frames (rules R152, R153) -/

theorem byte_ofNat_inj {i j : Nat} (hi : i ≤ 255) (hj : j ≤ 255) : BitVec.ofNat 8 i = BitVec.ofNat 8 j ↔ i = j := by
  rw [← BitVec.toNat_inj, BitVec.toNat_ofNat, BitVec.toNat_ofNat, Nat.mod_eq_of_lt (by omega),
    Nat.mod_eq_of_lt (by omega)]

/-- `f` has the control bytes of frame `i` of `n` (rule R152). -/
structure IsFrameOf (n i : Nat) (f : Frame) : Prop where
  index_lt : i < n
  count_le : n ≤ 255
  control0_eq : f.control0 = BitVec.ofNat 8 i
  control1_eq : f.control1 = BitVec.ofNat 8 (n - 1)

section
variable {n i : Nat} {f : Frame} (h : IsFrameOf n i f)
include h

theorem IsFrameOf.control1_eq_zero_iff : f.control1 = 0 ↔ n = 1 := by
  obtain ⟨hi, hn, -, h1⟩ := h
  have hbyte := byte_ofNat_inj (i := n - 1) (j := 0) (by omega) (by omega)
  rw [h1, BitVec.ofNat_eq_ofNat, hbyte]
  omega

theorem IsFrameOf.control0_eq_zero_iff : f.control0 = 0 ↔ i = 0 := by
  obtain ⟨hi, hn, h0, -⟩ := h
  rw [h0]
  exact byte_ofNat_inj (j := 0) (by omega) (by omega)

theorem IsFrameOf.control0_eq_control1_iff : f.control0 = f.control1 ↔ i + 1 = n := by
  obtain ⟨hi, hn, h0, h1⟩ := h
  rw [h0, h1, byte_ofNat_inj (by omega) (by omega)]
  omega

theorem IsFrameOf.frameClass_first (hn : 2 ≤ n) (hi : i = 0) : f.frameClass = .first :=
  (frameClass_first_iff _ _).mpr ⟨mt h.control1_eq_zero_iff.mp (by omega), h.control0_eq_zero_iff.mpr hi⟩

theorem IsFrameOf.frameClass_last (hn : 2 ≤ n) (hi : i + 1 = n) : f.frameClass = .last :=
  (frameClass_last_iff _ _).mpr ⟨mt h.control1_eq_zero_iff.mp (by omega), h.control0_eq_control1_iff.mpr hi⟩

theorem IsFrameOf.frameClass_middle (h0 : 0 < i) (hi : i + 1 < n) : f.frameClass = .middle :=
  (frameClass_middle_iff _ _).mpr ⟨mt h.control1_eq_zero_iff.mp (by omega),
    mt h.control0_eq_zero_iff.mp (by omega), mt h.control0_eq_control1_iff.mp (by omega)⟩

end

theorem isFrameOf_fragFrame {cfg : Cfg} {pkt : Bytes} (hlen : pkt.length ≤ 255) {i : Nat}
    (hi : i < frameCount pkt.length cfg.capacity) (dst : Byte) (g : Frame) :
    IsFrameOf (frameCount pkt.length cfg.capacity) i
      (fragFrame cfg pkt dst (frameCount pkt.length cfg.capacity) i g) where
  index_lt := hi
  count_le := frameCount_le _ _ cfg.legal.1.1 hlen
  control0_eq := rfl
  control1_eq := rfl

/-! ### One frame of a packet at a receiver (rules R129, R195) -/

theorem parse_stuffed_packMessage {f : Frame} (h : f.length.toNat = f.netPacket.length) :
    Claims.parse (stuffBytes (packMessage f)) = some f := by
  rw [parse_of_delimited (delimited_stuffBytes _), bodyOf_stuffBytes, destuffBody_flatMap_escape]
  exact unpackMessage_packMessage h

/-- RECV leaves `cfg`: run under its own record, it ends under that record (`recvStages_withCfg`). -/
theorem recvStages_cfg (s : State) : (recvStages s).cfg = s.cfg := by
  have hself : recvStages s = (recvStages s).withCfg s.cfg := recvStages_withCfg (s := s) rfl rfl rfl
  rw [hself, withCfg_cfg]

/-- The stuffed frame `i` of a packet, as SEND emits it (rule R190). -/
def sentFrame (c : Cfg) (P : Bytes) (dst : Byte) (i : Nat) : Bytes :=
  stuffBytes (packMessage (sealedFrame c P dst i))

/-- The first `k` frames of a packet. -/
def sentFrames (c : Cfg) (P : Bytes) (dst : Byte) (k : Nat) : List Bytes :=
  (List.range k).map (sentFrame c P dst)

theorem exec_send_events {P : Bytes} (h : P.length ≤ 255) (dst : Byte) (a : State) :
    ∃ a', exec (.send P dst) a = .next a' ∧
      a'.events = a.events ++
        (sentFrames a.cfg P dst (frameCount P.length a.cfg.capacity)).map Event.tx := by
  refine ⟨_, exec_send h dst a, ?_⟩
  show (sendFrames (loadSend P dst a)).events = _
  rw [sendFrames_events, sentFrames, List.map_map]
  rfl

theorem length_sentFrames (c : Cfg) (P : Bytes) (dst : Byte) (k : Nat) : (sentFrames c P dst k).length = k := by
  simp [sentFrames]

theorem take_sentFrames (c : Cfg) (P : Bytes) (dst : Byte) {k n : Nat} (h : k ≤ n) :
    (sentFrames c P dst n).take k = sentFrames c P dst k := by
  rw [sentFrames, ← List.map_take, List.take_range, Nat.min_eq_left h, sentFrames]

theorem sentFrames_succ (c : Cfg) (P : Bytes) (dst : Byte) (k : Nat) :
    sentFrames c P dst (k + 1) = sentFrames c P dst k ++ [sentFrame c P dst k] := by
  simp [sentFrames, List.range_succ]

theorem sealedFrame_length (c : Cfg) (P : Bytes) (dst : Byte) (i : Nat) :
    (sealedFrame c P dst i).length.toNat = (sealedFrame c P dst i).netPacket.length :=
  fragFrame_length c P dst i Frame.default

theorem sealedFrame_netPacket (c : Cfg) (P : Bytes) (dst : Byte) (i : Nat) :
    (sealedFrame c P dst i).netPacket = fragPayload c.capacity P (frameCount P.length c.capacity) i := rfl

theorem parse_sentFrame (c : Cfg) (P : Bytes) (dst : Byte) (i : Nat) :
    Claims.parse (sentFrame c P dst i) = some (sealedFrame c P dst i) :=
  parse_stuffed_packMessage (sealedFrame_length c P dst i)

theorem crcGood_sealedFrame (c : Cfg) (P : Bytes) (dst : Byte) (i : Nat) :
    Claims.CrcGood c.poly (sealedFrame c P dst i) := ⟨rfl, rfl⟩

theorem isFrameOf_sealedFrame {c : Cfg} {P : Bytes} (hP : P.length ≤ 255) {i : Nat}
    (hi : i < frameCount P.length c.capacity) (dst : Byte) :
    IsFrameOf (frameCount P.length c.capacity) i (sealedFrame c P dst i) := by
  obtain ⟨hlt, hle, h0, h1⟩ := isFrameOf_fragFrame hP hi dst Frame.default
  exact ⟨hlt, hle, h0, h1⟩

/-- A frame's payload is at most `C` bytes, so with every byte escaped it is still within `RAW_MAX` (rule R11). -/
theorem length_sentFrame_le (c : Cfg) (P : Bytes) (dst : Byte) {i : Nat}
    (hi : i < frameCount P.length c.capacity) : (sentFrame c P dst i).length ≤ 255 := by
  obtain ⟨⟨hC, hmax⟩, -⟩ := c.legal
  have hpayload := length_fragPayload_le hC P hi
  have hbound := (stuffedLength.2 (sealedFrame c P dst i) (sealedFrame_length c P dst i)).2
  rw [sealedFrame_length, sealedFrame_netPacket] at hbound
  exact hbound.trans (by omega)

/-- A receiver with configuration `r` can take the packet `P` from a sender with configuration `c` (rule R180). -/
structure Receivable (c r : Cfg) (P : Bytes) (dst : Byte) : Prop where
  sendable : P.length ≤ 255
  poly : c.poly = r.poly
  room : P.length ≤ r.reasmMax
  addressed : dst = r.localAddr ∨ dst = 0xFF

section
variable {c r : Cfg} {P : Bytes} {dst : Byte} (h : Receivable c r P dst)
include h

/-- With `error = 0` a packet's frame passes every check before the buffer. -/
theorem Receivable.recv_eq_acceptFrame (reasm : Bytes) (i : Nat) :
    Claims.recv r false reasm (sentFrame c P dst i) = acceptFrame r false reasm (sealedFrame c P dst i) := by
  have hcrc : Claims.CrcGood r.poly (sealedFrame c P dst i) := h.poly ▸ crcGood_sealedFrame c P dst i
  rw [recv_of_passes (parse_sentFrame c P dst i) h.addressed, if_neg (by simp),
    if_neg (not_not.mpr hcrc)]

/-- The frames before frame `i` left what they hold of the packet in `reasm`; frame 0 does not ask. -/
theorem Receivable.fragmentBase_eq_take {i : Nat} (hi : i < frameCount P.length c.capacity) {reasm : Bytes}
    (hreasm : i ≠ 0 → reasm = P.take (i * c.capacity)) :
    fragmentBase reasm (sealedFrame c P dst i) = P.take (i * c.capacity) := by
  have hzero := (isFrameOf_sealedFrame h.sendable hi dst).control0_eq_zero_iff
  by_cases h0 : i = 0
  · rw [fragmentBase, if_pos (hzero.mpr h0), h0, Nat.zero_mul, List.take_zero]
  · rw [fragmentBase, if_neg (mt hzero.mp h0), hreasm h0]

theorem Receivable.accept_not_last {i : Nat} (hi : i + 1 < frameCount P.length c.capacity) {reasm : Bytes}
    (hreasm : i ≠ 0 → reasm = P.take (i * c.capacity)) :
    acceptFrame r false reasm (sealedFrame c P dst i) =
      ⟨false, P.take ((i + 1) * c.capacity), [], true, .buffered⟩ := by
  have hframe := isFrameOf_sealedFrame h.sendable (Nat.lt_of_succ_lt hi) dst
  have hbase := h.fragmentBase_eq_take (Nat.lt_of_succ_lt hi) hreasm
  have hnext := take_append_fragPayload hi c.capacity P
  rw [acceptFrame_buffered false (mt hframe.control1_eq_zero_iff.mp (by omega))
    (mt hframe.control0_eq_control1_iff.mp (by omega)), hbase, sealedFrame_netPacket, hnext]
  rw [hbase, sealedFrame_length, sealedFrame_netPacket, ← List.length_append, hnext]
  exact (List.length_take_le' ..).trans h.room

theorem Receivable.accept_last {i : Nat} (hi : i + 1 = frameCount P.length c.capacity) {reasm : Bytes}
    (hreasm : i ≠ 0 → reasm = P.take (i * c.capacity)) :
    acceptFrame r false reasm (sealedFrame c P dst i) =
      ⟨false, if i = 0 then reasm else [], [.deliver P c.localAddr], true, .delivered⟩ := by
  have hframe := isFrameOf_sealedFrame h.sendable (Nat.lt_of_succ_le hi.le) dst
  have hbase := h.fragmentBase_eq_take (Nat.lt_of_succ_le hi.le) hreasm
  have hwhole := take_append_fragPayload_last c.capacity P i
  rw [hi] at hwhole
  by_cases h0 : i = 0
  · rw [acceptFrame_single (hframe.control1_eq_zero_iff.mpr (by omega)), sealedFrame_netPacket, if_pos h0]
    rw [h0, Nat.zero_mul, List.take_zero, List.nil_append] at hwhole
    rw [h0, hwhole]
    rfl
  · rw [acceptFrame_last false (mt hframe.control1_eq_zero_iff.mp (by omega))
      (hframe.control0_eq_control1_iff.mpr hi), hbase, sealedFrame_netPacket, hwhole, if_neg h0]
    · rfl
    · rw [hbase, sealedFrame_length, sealedFrame_netPacket, ← List.length_append, hwhole]
      exact h.room

end

/-! ### The frames of a packet in order (rule R180) -/

theorem recvAll_append {xs : List Bytes} {s t : State} (h : Claims.recvAll xs s = .next t) (ys : List Bytes) :
    Claims.recvAll (xs ++ ys) s = Claims.recvAll ys t := by
  induction xs generalizing s with
  | nil =>
    obtain rfl := Host.Outcome.next.inj h
    rfl
  | cons x xs ih =>
    rw [Claims.recvAll] at h
    rw [List.cons_append, Claims.recvAll]
    cases hexec : exec (.recv x) s with
    | next u => exact ih (by simpa only [hexec] using h)
    | fault e => simp [hexec] at h
    | refused e => simp [hexec] at h

theorem recvAll_concat {xs : List Bytes} {x : Bytes} {s t u : State} (hxs : Claims.recvAll xs s = .next t)
    (hx : exec (.recv x) t = .next u) : Claims.recvAll (xs ++ [x]) s = .next u := by
  rw [recvAll_append hxs, Claims.recvAll, hx]
  rfl

/-- What a receiver that was in state `b` has of the packet after its first `k` frames, none of which was the last. -/
structure HoldsFrames (b : State) (c : Cfg) (P : Bytes) (k : Nat) (t : State) : Prop where
  cfg : t.cfg = b.cfg
  error : t.error = false
  events : t.events = b.events
  untouched : k = 0 → t.reasm = b.reasm
  reasm : k ≠ 0 → t.reasm = P.take (k * c.capacity)
  result : k ≠ 0 → t.result = .recv true .buffered

section
variable {c : Cfg} {b : State} {P : Bytes} {dst : Byte} (h : Receivable c b.cfg P dst)
include h

/-- RECV of the next frame is the buffer's part of its transition function. -/
theorem Receivable.exec_recv_sentFrame {k : Nat} {t : State} (ht : HoldsFrames b c P k t)
    (hk : k < frameCount P.length c.capacity) :
    ∃ u, exec (.recv (sentFrame c P dst k)) t = .next u ∧ u.cfg = b.cfg ∧
      RecvLeaves (acceptFrame b.cfg false t.reasm (sealedFrame c P dst k)) b.events u := by
  have hlen := length_sentFrame_le c P dst hk
  refine ⟨_, exec_recv hlen t, (recvStages_cfg _).trans ht.cfg, ?_⟩
  have hleaves := recvStages_leaves (loadRecv (sentFrame c P dst k) t)
  simp only [loadRecv_cfg, loadRecv_error, loadRecv_reasm, loadRecv_raw, loadRecv_events] at hleaves
  rwa [ht.cfg, ht.error, ht.events, h.recv_eq_acceptFrame] at hleaves

/-- Each frame before the last is stored behind those before it. -/
theorem Receivable.recvAll_sentFrames_of_lt (hb : b.error = false) {k : Nat}
    (hk : k < frameCount P.length c.capacity) :
    ∃ t, Claims.recvAll (sentFrames c P dst k) b = .next t ∧ HoldsFrames b c P k t := by
  induction k with
  | zero => exact ⟨b, rfl, rfl, hb, rfl, fun _ => rfl, nofun, nofun⟩
  | succ k ih =>
    obtain ⟨t, hrun, ht⟩ := ih (Nat.lt_of_succ_lt hk)
    obtain ⟨u, hexec, hcfg, hleaves⟩ := h.exec_recv_sentFrame ht (Nat.lt_of_succ_lt hk)
    rw [h.accept_not_last hk ht.reasm] at hleaves
    refine ⟨u, sentFrames_succ c P dst k ▸ recvAll_concat hrun hexec, hcfg, hleaves.error, ?_, nofun,
      fun _ => hleaves.reasm, fun _ => hleaves.result⟩
    exact hleaves.events.trans (List.append_nil _)

/-- The last frame delivers the packet: from the buffer, or at once when it is the only one. -/
theorem Receivable.recvAll_sentFrames (hb : b.error = false) :
    ∃ u, Claims.recvAll (sentFrames c P dst (frameCount P.length c.capacity)) b = .next u ∧
      RecvLeaves ⟨false, if frameCount P.length c.capacity = 1 then b.reasm else [],
        [.deliver P c.localAddr], true, .delivered⟩ b.events u := by
  obtain ⟨k, hk⟩ := Nat.exists_eq_add_of_le' (frameCount_pos P.length c.capacity)
  have hlt : k < frameCount P.length c.capacity := by omega
  obtain ⟨t, hrun, ht⟩ := h.recvAll_sentFrames_of_lt hb hlt
  obtain ⟨u, hexec, -, hleaves⟩ := h.exec_recv_sentFrame ht hlt
  rw [h.accept_last hk.symm ht.reasm] at hleaves
  refine ⟨u, ?_, hleaves.error, hleaves.reasm.trans ?_, hleaves.events, hleaves.result⟩
  · rw [hk, sentFrames_succ]
    exact recvAll_concat hrun hexec
  · by_cases h0 : k = 0
    · simp [hk, h0, ht.untouched h0]
    · simp [hk, h0]

end

/-! ### The obligations -/

/-- Settles O33: the bounds and the least count by the arithmetic of `frameCount`, which FRAG puts into its register. -/
theorem frameCountIsLeast : Obligations.FrameCountIsLeast := by
  refine ⟨fun L C hL hC _ => ?_, fun s => ⟨_, rfl, rfl⟩⟩
  refine ⟨frameCount_pos L C, frameCount_le L C hC hL, le_frameCount_mul L C hC,
    fun k => frameCount_le_of_le_mul hC, ?_⟩
  rintro rfl
  exact frameCount_zero C hC

/-- Settles O34: `num_frames` is the rounded-up quotient, and the fields of the frame are those of the rules. -/
theorem fragFillsFrame : Obligations.FragFillsFrame := by
  intro s C n hlen hi
  have hn : n = frameCount s.pkt.length s.cfg.capacity := numFrames_eq_frameCount _ s.cfg.legal.1.1
  have hpayload : fragPayload C s.pkt n s.fragIndex =
      if s.fragIndex < n - 1 then (s.pkt.drop (s.fragIndex * C)).take C else s.pkt.drop ((n - 1) * C) := by
    split
    · exact fragPayload_of_not_last (by omega) C s.pkt
    · obtain ⟨k, hk⟩ : ∃ k, n = k + 1 := ⟨n - 1, by omega⟩
      obtain rfl : s.fragIndex = k := by omega
      rw [hk, fragPayload_last, Nat.add_sub_cancel]
  have hlength : fragLength C s.pkt.length n s.fragIndex =
      if s.fragIndex < n - 1 then BitVec.ofNat 8 C else BitVec.ofNat 8 (s.pkt.length - (n - 1) * C) := apply_ite ..
  rw [← hpayload, ← hlength, hn]
  rfl

/-- Settles O35: the slices follow one another in the packet, and the control bytes tell the first, the last and those
between apart. -/
theorem fragmentsRebuildPacket : Obligations.FragmentsRebuildPacket := by
  intro cfg pkt dst g hlen n frame
  have hC : 1 ≤ cfg.capacity := cfg.legal.1.1
  have hn : 1 ≤ n := frameCount_pos ..
  have hframe (i : Nat) (hi : i < n) : IsFrameOf n i (frame i) := isFrameOf_fragFrame hlen hi dst g
  have hlength (i : Nat) : (frame i).length.toNat = (frame i).netPacket.length :=
    fragFrame_length cfg pkt dst i g
  refine ⟨flatMap_fragPayload hn cfg.capacity pkt, fun i hi => ⟨hlength i, fun hnot => ?_, fun hlast hpkt => ?_, ?_⟩,
    fun hfits => ?_, fun htwo => ⟨?_, ?_, fun i h0 hi => ?_⟩⟩
  · exact (hlength i).trans (length_fragPayload_of_not_last hC pkt hnot)
  · rw [hlength i]
    exact ⟨length_fragPayload_last_pos hC pkt hlast hpkt, length_fragPayload_last_le hC pkt hlast⟩
  · rintro rfl
    apply BitVec.eq_of_toNat_eq
    exact (hlength i).trans (congrArg List.length (fragPayload_nil cfg.capacity n i))
  · have hone : n = 1 := frameCount_eq_one_of_le hC hfits
    have h1 : (frame 0).control1 = 0 := (hframe 0 hn).control1_eq_zero_iff.mpr hone
    exact ⟨hone, rfl, h1, (frameClass_single_iff _ _).mpr h1⟩
  · exact (hframe 0 hn).frameClass_first htwo rfl
  · exact (hframe (n - 1) (by omega)).frameClass_last htwo (by omega)
  · exact (hframe i (by omega)).frameClass_middle h0 hi

/-- Settles O38: each row of a class puts the bytes that are there into the registers, and REASM ends with a
disposition. -/
theorem reasmActsByClass : Obligations.ReasmActsByClass := by
  intro s c0 c1
  have hself : exec .reasm s = .next (reasmOp (setControl c0 c1 s)) := exec_reasm_eq_setControl s
  refine ⟨fun h1 => ?_, fun h1 h0 => ?_, fun h1 hc => ?_, fun h1 h0 hc => ?_, ?_⟩
  · rw [hself, exec_single, h1]
  · rw [hself, exec_first h1, h0]
  · rw [hself, exec_last (hc ▸ h1), ← hc]
  · rw [hself, exec_middle ⟨h1, h0, hc⟩]
  · obtain ⟨d, hd, -⟩ := reasmOp_eq_dispose s
    exact ⟨dispose d s, congrArg Host.Outcome.next hd, dispose_cfg d s, dispose_inbox d s⟩

/-- Settles O40: the base of a FIRST fragment is empty, whatever the buffer held. -/
theorem firstStartsBuffer : Obligations.FirstStartsBuffer := by
  intro s c1 h1 hroom
  have hfits : (reasmBase (setControl 0 c1 s)).length + s.frame.length.toNat ≤ s.cfg.reasmMax := by
    simpa [reasmBase] using hroom
  rw [exec_first h1, reasmOp_buffered (s := setControl 0 c1 s) h1 h1.symm hfits]
  rfl

/-- Settles O41: the base of a MIDDLE or a LAST fragment is the buffer. -/
theorem middleAppendsLastDelivers : Obligations.MiddleAppendsLastDelivers := by
  refine fun s hroom => ⟨fun c0 c1 h1 h0 hc => ?_, fun c h => ?_⟩
  · have hbase : reasmBase (setControl c0 c1 s) = s.reasm := reasmBase_of_control0_ne_zero h0
    rw [exec_middle ⟨h1, h0, hc⟩, reasmOp_buffered (s := setControl c0 c1 s) h1 hc (hbase ▸ hroom),
      dispose_buffered, reasmAppended, hbase]
    rfl
  · have hbase : reasmBase (setControl c c s) = s.reasm := reasmBase_of_control0_ne_zero h
    have hcls : (setControl c c s).frame.frameClass ≠ .single := (frameClass_ne_single_iff _).mpr h
    rw [exec_last h, reasmOp_last (s := setControl c c s) h rfl (hbase ▸ hroom),
      dispose_delivered_fragment _ hcls, reasmAppended, hbase]
    rfl

/-- Settles O42: the new length is the payload's for FIRST, and the buffer's with it for MIDDLE and LAST. -/
theorem overflowDropsFragment : Obligations.OverflowDropsFragment := by
  refine fun s => ⟨fun c1 h1 hover => ?_, fun c0 c1 h1 h0 hc hover => ?_, fun c h hover => ?_⟩
  · have hfull : s.cfg.reasmMax < (reasmBase (setControl 0 c1 s)).length + s.frame.length.toNat := by
      simpa [reasmBase] using hover
    rw [exec_first h1, reasmOp_overflow (s := setControl 0 c1 s) h1 hfull, dispose_dropOverflow,
      errorAfterOverflow_of_notLast h1.symm]
    rfl
  · have hbase : reasmBase (setControl c0 c1 s) = s.reasm := reasmBase_of_control0_ne_zero h0
    rw [exec_middle ⟨h1, h0, hc⟩, reasmOp_overflow (s := setControl c0 c1 s) h1 (hbase ▸ hover),
      dispose_dropOverflow, errorAfterOverflow_of_notLast hc]
    rfl
  · have hbase : reasmBase (setControl c c s) = s.reasm := reasmBase_of_control0_ne_zero h
    rw [exec_last h, reasmOp_overflow (s := setControl c c s) h (hbase ▸ hover), dispose_dropOverflow,
      errorAfterOverflow_of_last h rfl]
    rfl

/-- Settles O51: RECV's transition function is the table for a frame that passes the filter, and keeps `error` for every
other raw buffer. -/
theorem recvFollowsErrorTable : Obligations.RecvFollowsErrorTable := by
  constructor
  · intro s raw f hlen hp hpass base row
    obtain ⟨t, ht, hleaves⟩ := exec_recv_leaves hlen s
    rw [recv_eq_row hp hpass] at hleaves
    exact ⟨t, ht, hleaves.error, hleaves.result, hleaves.reasm, hleaves.events⟩
  · intro s raw hlen hother
    obtain ⟨t, ht, hleaves⟩ := exec_recv_leaves hlen s
    refine ⟨t, ht, hleaves.error.trans ?_⟩
    cases hp : Claims.parse raw with
    | none => rw [recv_of_parse_none hp]
    | some f => rw [recv_of_not_passes hp (hother f hp)]

/-- Settles O54: RECV's transition function keeps `reasm` in each stage that drops before the buffer, and REASM empties
it on overflow. -/
theorem dropsKeepReassemblyBuffer : Obligations.DropsKeepReassemblyBuffer := by
  intro s t raw status d hexec hres
  have hleaves := recvLeaves_of_exec_recv hexec
  obtain ⟨-, rfl⟩ := Result.recv.inj (hleaves.result.symm.trans hres)
  rw [hleaves.reasm]
  exact recv_dropsKeepReasm s.cfg s.error s.reasm raw

/-- Settles O58: SEND emits `sentFrames`; a receiver stores each before the last (`recvAll_sentFrames_of_lt`), and the
last delivers the packet (`recvAll_sentFrames`). -/
theorem sentPacketIsDeliveredOnce : Obligations.SentPacketIsDeliveredOnce := by
  intro a b P d hP hpoly hroom hb hdst
  have h : Receivable a.cfg b.cfg P d := ⟨hP, hpoly, hroom, hdst⟩
  have hn := frameCount_pos P.length a.cfg.capacity
  obtain ⟨a', hsend, hevents⟩ := exec_send_events hP d a
  obtain ⟨u, hrun, hleaves⟩ := h.recvAll_sentFrames hb
  have hlen := length_sentFrames a.cfg P d (frameCount P.length a.cfg.capacity)
  refine ⟨a', _, hsend, hevents, List.ne_nil_of_length_pos (by rwa [hlen]), fun k hk => ?_, u, hrun,
    hleaves.events, hleaves.error, fun htwo => ?_, fun hone => ?_⟩
  · rw [hlen] at hk ⊢
    rw [take_sentFrames _ _ _ hk]
    rcases Nat.lt_or_eq_of_le (Nat.succ_le_of_lt hk) with hlt | hlast
    · obtain ⟨t, ht, hholds⟩ := h.recvAll_sentFrames_of_lt hb hlt
      exact ⟨t, _, ht, hholds.result (Nat.succ_ne_zero k), fun _ => hholds.events⟩
    · exact ⟨u, _, hlast ▸ hrun, hleaves.result, fun hlt => absurd hlast hlt.ne⟩
  · exact hleaves.reasm.trans (if_neg (by omega))
  · exact hleaves.reasm.trans (if_pos (hlen ▸ hone))

/-- Settles O36: the row answers as `accepts` decides. -/
theorem filterAcceptsOwnAndBroadcast : Obligations.FilterAcceptsOwnAndBroadcast := by
  intro s
  refine ⟨fun hown => exec_filter_passes (decide_eq_true hown), fun hlocal hbroad => ?_⟩
  exact exec_filter_drops ((accepts_eq_false_iff _ _).mpr ⟨hlocal, hbroad⟩)

/-- Settles O37: the row answers as `gated` decides, and only a LAST fragment clears `error`. -/
theorem gateQuarantinesFragments : Obligations.GateQuarantinesFragments := by
  intro s
  refine ⟨fun he h1 hc => ?_, fun he h1 hc => ?_, fun hpass => ?_⟩
  · rw [exec_gate_drops ((gated_eq_true_iff _ _).mpr ⟨he, h1⟩), dispose_dropQuarantine,
      errorAfterQuarantine_of_notLast hc]
    rfl
  · rw [exec_gate_drops ((gated_eq_true_iff _ _).mpr ⟨he, h1⟩), dispose_dropQuarantine,
      errorAfterQuarantine_of_last h1 hc]
    rfl
  · have hopen : gated s.error s.frame = false := by
      obtain he | h1 := hpass
      · simp [gated, he]
      · simp [gated, h1]
    exact exec_gate_passes hopen

/-- Settles O39: `control[1] = 0` is the class SINGLE, whose row REASM runs. -/
theorem singleIsDelivered : Obligations.SingleIsDelivered := by
  intro s c0
  have hcls : (setControl c0 0 s).frame.frameClass = .single := (frameClass_single_iff c0 0).mpr rfl
  rw [exec_single, reasmOp, hcls]
  exact congrArg Host.Outcome.next (dispose_delivered_single _ hcls)

end Sys2Proof.Machine

/-! SUPPORT. Proofs of the statements about the host's operations (43_dispatch.md): that each answers, the frames of a
SEND against the spec's, what a RECV leaves, and the quarantine of a packet. -/

namespace Sys2Proof.Machine

/-! ### Every operation within its bounds answers (rules R33, R203) -/

theorem decodeCmd_ok {data : Bytes} (h : data.length ≤ 255) (code : BitVec 2) (dst : Byte) :
    ∃ i, decodeCmd code data dst = .ok i := by
  unfold decodeCmd
  rw [if_pos h, if_pos h]
  split_ifs <;> exact ⟨_, rfl⟩

/-- What a host can present is a well-formed row of the format CMD. -/
theorem decode_presentable {t : Transaction} (h : presentable t = true) :
    ∃ i, decode t = .ok i ∧ IsRowOf .cmd i := by
  cases t with
  | cmd code data dst =>
    obtain ⟨i, hdec⟩ := decodeCmd_ok (of_decide_eq_true h) code dst
    exact ⟨i, hdec, decodeCmd_isRow hdec⟩
  | _ => cases h

theorem exec_cmd_goesOn {i : Instr} (h : IsRowOf .cmd i) (s : State) : GoesOn (exec i s) := by
  obtain ⟨hwf, hfmt⟩ := h
  obtain rfl | ⟨pkt, dst, rfl⟩ | ⟨raw, rfl⟩ | rfl := cmd_cases hfmt
  · exact ⟨_, rfl⟩
  · exact ⟨_, exec_send (of_decide_eq_true hwf) dst s⟩
  · exact ⟨_, exec_recv (of_decide_eq_true hwf) s⟩
  · exact ⟨_, rfl⟩

/-! ### The frames of SEND (rules R190, R193) -/

@[simp] theorem sendFrame_crcOk (s : State) (i : Nat) : (sendFrame s i).crcOk = s.crcOk := by simp [sendFrame]

@[simp] theorem sendFrames_crcOk (s : State) : (sendFrames s).crcOk = s.crcOk :=
  sendFrames_keeps State.crcOk sendFrame_crcOk s

@[simp] theorem sendFrames_dst (s : State) : (sendFrames s).dst = s.dst :=
  sendFrames_keeps State.dst sendFrame_dst s

theorem packetSlice_eq (C : Nat) (pkt : Bytes) (n i : Nat) :
    Claims.packetSlice C pkt n i = fragPayload C pkt n i := by
  by_cases h : i + 1 < n
  · rw [Claims.packetSlice, if_pos h, fragPayload_of_not_last h]
  · rw [Claims.packetSlice, if_neg h, fragPayload, if_neg (by omega), slice, List.take_of_length_le (by simp)]

/-- The `length` register of a packet's frame counts its payload (rules R39, R151). -/
theorem ofNat_length_fragPayload (cfg : Cfg) (pkt : Bytes) (i : Nat) :
    BitVec.ofNat 8 (fragPayload cfg.capacity pkt (frameCount pkt.length cfg.capacity) i).length =
      fragLength cfg.capacity pkt.length (frameCount pkt.length cfg.capacity) i := by
  have hlen := sealedFrame_length cfg pkt 0 i
  rw [sealedFrame_netPacket] at hlen
  rw [← hlen, BitVec.ofNat_toNat, BitVec.setWidth_eq]
  rfl

/-- The frame the spec's rules give is the one the machine seals, packs and stuffs. -/
theorem wireFrame_eq_sentFrame (cfg : Cfg) (pkt : Bytes) (dst : Byte) (i : Nat) :
    Claims.wireFrame cfg pkt dst (frameCount pkt.length cfg.capacity) i = sentFrame cfg pkt dst i := by
  rw [Claims.wireFrame, packetSlice_eq, ofNat_length_fragPayload]
  rfl

theorem wireFrames_eq_sentFrames (cfg : Cfg) (pkt : Bytes) (dst : Byte) :
    Claims.wireFrames cfg pkt dst = sentFrames cfg pkt dst (frameCount pkt.length cfg.capacity) := by
  rw [Claims.wireFrames, numFrames_eq_frameCount _ cfg.legal.1.1]
  exact List.map_congr_left fun i _ => wireFrame_eq_sentFrame cfg pkt dst i

theorem getElem?_sentFrames_eq_some {cfg : Cfg} {pkt : Bytes} {dst : Byte} {k i : Nat} {r : Bytes}
    (h : (sentFrames cfg pkt dst k)[i]? = some r) : i < k ∧ r = sentFrame cfg pkt dst i := by
  obtain ⟨hi, rfl⟩ := List.getElem?_eq_some_iff.mp h
  exact ⟨length_sentFrames cfg pkt dst k ▸ hi, by simp [sentFrames]⟩

/-- A stuffed frame by its payload: seven bytes more, of which none to all are escaped, and two delimiters (rule R124). -/
theorem length_sentFrame_bounds (cfg : Cfg) (pkt : Bytes) (dst : Byte) (i : Nat) :
    let p := fragPayload cfg.capacity pkt (frameCount pkt.length cfg.capacity) i
    p.length + 9 ≤ (sentFrame cfg pkt dst i).length ∧ (sentFrame cfg pkt dst i).length ≤ 2 * p.length + 16 := by
  have h := stuffedLength.2 (sealedFrame cfg pkt dst i) (sealedFrame_length cfg pkt dst i)
  rw [sealedFrame_length, sealedFrame_netPacket] at h
  obtain ⟨hlow, hhigh⟩ := h
  exact ⟨by rwa [Nat.add_comm], hhigh.trans (by omega)⟩

/-- The bytes of the first `k` frames, by those of the first `k` payloads. -/
theorem length_flatten_sentFrames_bounds (cfg : Cfg) (pkt : Bytes) (dst : Byte) (k : Nat) :
    let p := (List.range k).flatMap (fragPayload cfg.capacity pkt (frameCount pkt.length cfg.capacity))
    p.length + 9 * k ≤ (sentFrames cfg pkt dst k).flatten.length ∧
      (sentFrames cfg pkt dst k).flatten.length ≤ 2 * p.length + 16 * k := by
  induction k with
  | zero => exact ⟨le_rfl, le_rfl⟩
  | succ k ih =>
    have hframe := length_sentFrame_bounds cfg pkt dst k
    simp only [sentFrames_succ, List.range_succ, List.flatMap_append, List.flatMap_singleton,
      List.flatten_append, List.flatten_singleton, List.length_append] at ih hframe ⊢
    omega

theorem IsFrameOf.control0_toNat {n i : Nat} {f : Frame} (h : IsFrameOf n i f) : f.control0.toNat = i := by
  obtain ⟨hi, hn, h0, -⟩ := h
  rw [h0, BitVec.toNat_ofNat, Nat.mod_eq_of_lt (by omega)]

theorem IsFrameOf.control1_toNat {n i : Nat} {f : Frame} (h : IsFrameOf n i f) : f.control1.toNat = n - 1 := by
  obtain ⟨hi, hn, -, h1⟩ := h
  rw [h1, BitVec.toNat_ofNat, Nat.mod_eq_of_lt (by omega)]

/-! ### What RECV leaves (rules R195, R198) -/

theorem judgeFrame_eq_dispose (u : State) : ∃ d v, judgeFrame u = dispose d v ∧ v.dst = u.dst := by
  unfold judgeFrame
  split_ifs
  · exact ⟨_, u, rfl, rfl⟩
  · obtain ⟨d, hd, -⟩ := reasmOp_eq_dispose (crcChkOp u)
    exact ⟨d, _, hd, rfl⟩
  · exact ⟨_, crcChkOp u, rfl, rfl⟩
  · exact ⟨_, u, rfl, rfl⟩

theorem recvStages_dst (s : State) : (recvStages s).dst = s.dst := by
  cases hp : Claims.parse s.raw with
  | none => rw [recvStages_of_parse_none hp, dispose_dst]
  | some f =>
    obtain ⟨d, v, hd, hv⟩ := judgeFrame_eq_dispose (takeFrame f s)
    rw [recvStages_of_parse_some hp, hd, dispose_dst, hv, takeFrame_dst]

theorem recvStages_inbox (s : State) : (recvStages s).inbox = s.inbox := by
  obtain ⟨d, u, hd, hu⟩ := recvStages_eq_dispose s
  rw [hd, dispose_inbox, hu]

theorem recvStages_released (s : State) : (recvStages s).Released := by
  obtain ⟨d, u, hd, -⟩ := recvStages_eq_dispose s
  exact hd ▸ dispose_released d u

/-- The one event of a RECV is a `Deliver`, and it stands with DELIVERED (rule R198). -/
def DeliversWhenDelivered (o : Claims.RecvOut) : Prop :=
  (o.disp = .delivered ∧ ∃ p src, o.events = [.deliver p src]) ∨ (o.disp ≠ .delivered ∧ o.events = [])

theorem acceptFrame_deliversWhenDelivered (cfg : Cfg) (error : Bool) (reasm : Bytes) (f : Frame) :
    DeliversWhenDelivered (acceptFrame cfg error reasm f) := by
  by_cases h1 : f.control1 = 0
  · rw [acceptFrame_single h1]
    exact .inl ⟨rfl, _, _, rfl⟩
  by_cases hroom : (fragmentBase reasm f).length + f.length.toNat ≤ cfg.reasmMax
  · by_cases hc : f.control0 = f.control1
    · rw [acceptFrame_last error h1 hc hroom]
      exact .inl ⟨rfl, _, _, rfl⟩
    · rw [acceptFrame_buffered error h1 hc hroom]
      exact .inr ⟨nofun, rfl⟩
  · rw [acceptFrame_overflow error h1 (Nat.lt_of_not_le hroom)]
    exact .inr ⟨nofun, rfl⟩

/-- The stages before the buffer drop the frame or let it go on. -/
theorem recv_deliversWhenDelivered (cfg : Cfg) (error : Bool) (reasm raw : Bytes) :
    DeliversWhenDelivered (Claims.recv cfg error reasm raw) := by
  cases hp : Claims.parse raw with
  | none =>
    rw [recv_of_parse_none hp]
    exact .inr ⟨nofun, rfl⟩
  | some f =>
    by_cases hpass : Claims.Passes cfg f
    · rw [recv_of_passes hp hpass]
      split_ifs
      · exact .inr ⟨nofun, rfl⟩
      · exact .inr ⟨nofun, rfl⟩
      · exact acceptFrame_deliversWhenDelivered cfg error reasm f
      · exact .inr ⟨nofun, rfl⟩
    · rw [recv_of_not_passes hp hpass]
      exact .inr ⟨nofun, rfl⟩

/-! ### A packet in quarantine (rules R161 to R163, R205) -/

/-- In `t` the rest of a packet is held back, of which the receiver in state `s` has taken nothing. -/
structure Quarantines (s t : State) : Prop where
  cfg : t.cfg = s.cfg
  error : t.error = true
  reasm : t.reasm = s.reasm
  events : t.events = s.events

/-- RECV runs its transition function, and keeps the configuration it runs it under. -/
theorem exec_recv_leaves_cfg {raw : Bytes} (h : raw.length ≤ 255) (s : State) :
    ∃ t, exec (.recv raw) s = .next t ∧ t.cfg = s.cfg ∧
      RecvLeaves (Claims.recv s.cfg s.error s.reasm raw) s.events t :=
  ⟨_, exec_recv h s, recvStages_cfg (loadRecv raw s), recvStages_leaves (loadRecv raw s)⟩

/-- A fragment whose checksum fails begins the quarantine. -/
theorem quarantines_of_recv_bad {s : State} (hs : s.error = false) {bad : Bytes} {f : Frame}
    (hlen : bad.length ≤ 255) (hp : Claims.parse bad = some f) (hpass : Claims.Passes s.cfg f)
    (hcrc : ¬ Claims.CrcGood s.cfg.poly f) :
    ∃ t, exec (.recv bad) s = .next t ∧ Quarantines s t ∧ t.result = .recv true .dropCrc := by
  obtain ⟨t, ht, hcfg, hleaves⟩ := exec_recv_leaves_cfg hlen s
  rw [recv_of_passes hp hpass, if_neg (by simp [hs]), if_pos hcrc] at hleaves
  exact ⟨t, ht, ⟨hcfg, hleaves.error, hleaves.reasm, hleaves.events.trans (List.append_nil _)⟩, hleaves.result⟩

section
variable {s t : State} (h : Quarantines s t)
include h

/-- A fragment in quarantine is dropped before its checksum is looked at, and writes `error` only. -/
theorem Quarantines.exec_recv_fragment {r : Bytes} {g : Frame} (hlen : r.length ≤ 255)
    (hp : Claims.parse r = some g) (hpass : Claims.Passes s.cfg g) (h1 : g.control1 ≠ 0) :
    ∃ u, exec (.recv r) t = .next u ∧ u.cfg = s.cfg ∧
      RecvLeaves ⟨decide (g.control0 ≠ g.control1), s.reasm, [], true, .dropQuarantine⟩ s.events u := by
  obtain ⟨u, hu, hcfg, hleaves⟩ := exec_recv_leaves_cfg hlen t
  rw [h.cfg, h.error, h.reasm, h.events, recv_of_passes hp hpass, if_pos ⟨rfl, h1⟩] at hleaves
  refine ⟨u, hu, hcfg.trans h.cfg, hleaves.error.trans ?_, hleaves.reasm, hleaves.events, hleaves.result⟩
  by_cases hc : g.control0 = g.control1 <;> simp [hc]

/-- Fragments of which none is a LAST leave the quarantine as it is, each dropped. -/
theorem Quarantines.recvAll_notLast {rs : List Bytes} (hrs : ∀ r ∈ rs, r.length ≤ 255 ∧
    ∃ g, Claims.parse r = some g ∧ Claims.Passes s.cfg g ∧ Claims.NotLast g) :
    ∃ u, Claims.recvAll rs t = .next u ∧ Quarantines s u ∧
      (rs ≠ [] → u.result = .recv true .dropQuarantine) := by
  induction rs using List.reverseRecOn with
  | nil => exact ⟨t, rfl, h, nofun⟩
  | append_singleton rs r ih =>
    obtain ⟨u, hrun, hu, -⟩ := ih fun x hx => hrs x (List.mem_append_left _ hx)
    obtain ⟨hlen, g, hp, hpass, h1, hc⟩ := hrs r (List.mem_append_right _ (List.mem_singleton_self r))
    obtain ⟨v, hexec, hcfg, hleaves⟩ := hu.exec_recv_fragment hlen hp hpass h1
    exact ⟨v, recvAll_concat hrun hexec,
      ⟨hcfg, hleaves.error.trans (decide_eq_true hc), hleaves.reasm, hleaves.events.trans (List.append_nil _)⟩,
      fun _ => hleaves.result⟩

end

/-! ### The obligations -/

/-- Settles O9: what a host presents decodes to a well-formed row of the format CMD, and each of the four answers. -/
theorem hostStepsAlwaysAnswer : Obligations.HostStepsAlwaysAnswer := by
  intro s hhost
  cases hin : s.inbox with
  | nil => exact ⟨s, step_nil hin⟩
  | cons t rest =>
    obtain ⟨i, hdec, hrow⟩ := decode_presentable (hhost t (hin ▸ List.mem_cons_self))
    rw [step_cons hin hdec]
    exact exec_cmd_goesOn hrow _

/-- Settles O46: the loop emits `sentFrames`, which are the spec's frames, and no turn of it writes a field that the
statement keeps. -/
theorem sendEmitsItsFrames : Obligations.SendEmitsItsFrames := by
  intro s pkt dst hlen
  let u := loadSend pkt dst s
  refine ⟨_, exec_send hlen dst s, ?_, rfl, sendFrames_cfg u, sendFrames_error u, sendFrames_reasm u,
    sendFrames_inbox u, sendFrames_crcOk u, sendFrames_dst u, release_released (sendFrames u)⟩
  show (sendFrames u).events = _
  rw [sendFrames_events, wireFrames_eq_sentFrames, sentFrames, List.map_map]
  rfl

/-- Settles O47: frame `i` parses to the sealed frame, whose payload bounds its bytes; the payloads together are the
packet. -/
theorem sendFrameCountAndBytes : Obligations.SendFrameCountAndBytes := by
  intro s pkt dst hlen n
  obtain ⟨⟨hC, hmax⟩, -⟩ := s.cfg.legal
  have hn : n = frameCount pkt.length s.cfg.capacity := numFrames_eq_frameCount _ hC
  obtain ⟨t, hsend, hevents⟩ := exec_send_events hlen dst s
  have htotal := length_flatten_sentFrames_bounds s.cfg pkt dst (frameCount pkt.length s.cfg.capacity)
  simp only [flatMap_fragPayload (frameCount_pos pkt.length s.cfg.capacity)] at htotal
  rw [hn]
  refine ⟨t, _, hsend, hevents, length_sentFrames .., fun i r hr => ?_, fun r hr => ?_, htotal⟩
  · obtain ⟨hi, rfl⟩ := getElem?_sentFrames_eq_some hr
    have hframe := isFrameOf_sealedFrame hlen hi dst
    exact ⟨_, parse_sentFrame s.cfg pkt dst i, hframe.control0_toNat, hframe.control1_toNat⟩
  · obtain ⟨i, hi, rfl⟩ := List.mem_map.mp hr
    have hpayload := length_fragPayload_le hC pkt (List.mem_range.mp hi)
    have hframe := (length_sentFrame_bounds s.cfg pkt dst i).2
    omega

/-- Settles O49: the stages are the transition function (`recvStages_leaves`), and end with a disposition, which releases
the buffers. -/
theorem recvIsItsTransitionFunction : Obligations.RecvIsItsTransitionFunction := by
  intro s raw hlen o
  have hleaves : RecvLeaves o s.events (recvStages (loadRecv raw s)) := recvStages_leaves (loadRecv raw s)
  exact ⟨_, exec_recv hlen s, hleaves.error, hleaves.reasm, hleaves.events, hleaves.result,
    recvStages_cfg _, recvStages_inbox _, recvStages_dst _, recvStages_released _⟩

/-- Settles O53: the transition function has its event with DELIVERED only, and the status of DELIVERED is 1. -/
theorem recvDeliversExactlyWhenDelivered : Obligations.RecvDeliversExactlyWhenDelivered := by
  intro s t raw hexec
  obtain ⟨-, -, hevents, hresult⟩ := recvLeaves_of_exec_recv hexec
  obtain ⟨hd, p, src, he⟩ | ⟨hd, he⟩ := recv_deliversWhenDelivered s.cfg s.error s.reasm raw
  · refine .inl ⟨?_, p, src, he ▸ hevents⟩
    rw [hresult, recv_status, hd]
    rfl
  · exact .inr ⟨⟨_, _, hresult, hd⟩, hevents.trans (by rw [he, List.append_nil])⟩

/-- Settles O59: the corrupted fragment begins the quarantine, the fragments after it leave it as it is, and the LAST one
ends it; a receiver with `error = 0` then takes a packet (`Receivable.recvAll_sentFrames`). -/
theorem corruptedFragmentQuarantinesItsPacket : Obligations.CorruptedFragmentQuarantinesItsPacket := by
  intro s bad last mids f l hs hlens hbad hfpass hfnot hcrc hmids hlast hlpass hllast
  simp only [List.forall_mem_cons] at hlens
  obtain ⟨hbadlen, hlastlen, hmidslen⟩ := hlens
  obtain ⟨t, ht, hquar, hres⟩ := quarantines_of_recv_bad hs hbadlen hbad hfpass hcrc
  have hrun : Claims.recvAll [bad] s = .next t := recvAll_concat (xs := []) rfl ht
  have hnotlast (r : Bytes) (hr : r ∈ mids) := And.intro (hmidslen r hr) (hmids r hr)
  refine ⟨⟨t, ht, hres, hquar.error⟩, fun k hk => ?_, ?_⟩
  · obtain ⟨u, hu, hquar', hres'⟩ := hquar.recvAll_notLast (rs := mids.take (k + 1))
      fun r hr => hnotlast r (List.mem_of_mem_take hr)
    refine ⟨u, (recvAll_append hrun _).trans hu, hres' ?_, hquar'.error⟩
    exact List.ne_nil_of_length_pos (by rw [List.length_take]; omega)
  · obtain ⟨u, hu, hquar', -⟩ := hquar.recvAll_notLast hnotlast
    obtain ⟨v, hv, hcfg, hleaves⟩ := hquar'.exec_recv_fragment hlastlen hlast hlpass hllast.1
    have herror : v.error = false := hleaves.error.trans (decide_eq_false (not_not.mpr hllast.2))
    have hevents : v.events = s.events := hleaves.events.trans (List.append_nil _)
    refine ⟨v, recvAll_concat ((recvAll_append hrun mids).trans hu) hv, hleaves.result, herror, hleaves.reasm,
      hevents, fun a P hP hroom hpoly => ?_⟩
    have hrecv : Receivable a.cfg v.cfg P s.cfg.localAddr :=
      ⟨hP, hcfg ▸ hpoly, hcfg ▸ hroom, .inl (by rw [hcfg])⟩
    obtain ⟨w, hw, hdelivers⟩ := hrecv.recvAll_sentFrames herror
    exact ⟨w, wireFrames_eq_sentFrames a.cfg P _ ▸ hw, hevents ▸ hdelivers.events⟩

/-- Settles O2: the operation is the release of a state with `error` and `reasm` cleared. -/
theorem resetOperationResult : Obligations.ResetOperationResult := fun _ => rfl

/-- Settles O3: the operation writes the status channel only. -/
theorem nopChangesNothing : Obligations.NopChangesNothing := fun _ => rfl

/-- Settles O48: the bound is tested by the operation and by the decoder before anything else. -/
theorem longOperandsRefused : Obligations.LongOperandsRefused := by
  refine fun s => ⟨fun pkt dst hlong => ?_, fun raw dst hlong => ?_⟩
  · exact ⟨if_neg (Nat.not_le.mpr hlong), if_neg (Nat.not_le.mpr hlong)⟩
  · exact ⟨if_neg (Nat.not_le.mpr hlong), if_neg (Nat.not_le.mpr hlong)⟩

end Sys2Proof.Machine

/-! SUPPORT. Proofs of the statements about the dispositions (60_exceptions.md): the rows of rule R220, the order of the
drop conditions, and the two ways out of `error = 1`. -/

namespace Sys2Proof.Machine

/-! ### The rows of the dispositions (rule R220) -/

theorem errorAfterQuarantine_eq (e : Bool) (f : Frame) :
    errorAfterQuarantine e f = if f.control1 ≠ 0 ∧ f.control0 = f.control1 then false else e :=
  if_congr (frameClass_last_iff _ _) rfl rfl

theorem errorAfterOverflow_eq (e : Bool) (f : Frame) :
    errorAfterOverflow e f = if f.control1 ≠ 0 ∧ f.control0 = f.control1 then e else true :=
  if_congr (frameClass_last_iff _ _) rfl rfl

theorem exec_dropQuarantine (s : State) : exec .dropQuarantine s = .next (dispose .dropQuarantine s) := rfl

theorem exec_dropOverflow (s : State) : exec .dropOverflow s = .next (dispose .dropOverflow s) := rfl

theorem disposeTested_of_fits {s : State} (h : (reasmBase s).length + s.frame.length.toNat ≤ s.cfg.reasmMax)
    (d : Disposition) : disposeTested d s = dispose d s :=
  if_neg (by simp [(overflows_eq_false_iff s).mpr h])

theorem exec_delivered_single {s : State} (h1 : s.frame.control1 = 0) :
    exec .delivered s = .next (dispose .delivered s) :=
  if_pos ((frameClass_single_iff _ _).mpr h1)

theorem exec_delivered_of_fits {s : State} (h1 : s.frame.control1 ≠ 0)
    (hroom : (reasmBase s).length + s.frame.length.toNat ≤ s.cfg.reasmMax) :
    exec .delivered s = .next (dispose .delivered s) := by
  rw [← disposeTested_of_fits hroom]
  exact if_neg ((frameClass_ne_single_iff _).mpr h1)

theorem exec_buffered_of_fits {s : State}
    (hroom : (reasmBase s).length + s.frame.length.toNat ≤ s.cfg.reasmMax) :
    exec .buffered s = .next (dispose .buffered s) :=
  congrArg Host.Outcome.next (disposeTested_of_fits hroom .buffered)

/-- The first frame of a packet begins an empty buffer. -/
theorem reasmBase_of_control0_eq_zero {s : State} (h : s.frame.control0 = 0) : reasmBase s = [] := if_pos h

/-! ### RECV's transition function, condition by condition (rule R226) -/

section
variable {cfg : Cfg} {error : Bool} {raw : Bytes} {f : Frame} (hp : Claims.parse raw = some f)
  (hpass : Claims.Passes cfg f)
include hp hpass

theorem recv_of_quarantined (h1 : f.control1 ≠ 0) (reasm : Bytes) :
    Claims.recv cfg true reasm raw =
      ⟨decide (f.control0 ≠ f.control1), reasm, [], true, .dropQuarantine⟩ := by
  rw [recv_of_passes hp hpass, if_pos ⟨rfl, h1⟩]
  by_cases hc : f.control0 = f.control1 <;> simp [hc]

/-- A frame that the gate lets through has its checksum tested, and then goes to the buffer. -/
theorem recv_of_not_quarantined (hgate : error = false ∨ f.control1 = 0) (reasm : Bytes) :
    Claims.recv cfg error reasm raw =
      if ¬ Claims.CrcGood cfg.poly f then ⟨true, reasm, [], true, .dropCrc⟩
      else acceptFrame cfg error reasm f := by
  rw [recv_of_passes hp hpass, if_neg]
  rintro ⟨rfl, h1⟩
  exact hgate.elim nofun h1

theorem recv_of_crc_bad (hgate : error = false ∨ f.control1 = 0) (hcrc : ¬ Claims.CrcGood cfg.poly f)
    (reasm : Bytes) : Claims.recv cfg error reasm raw = ⟨true, reasm, [], true, .dropCrc⟩ :=
  (recv_of_not_quarantined hp hpass hgate reasm).trans (if_pos hcrc)

theorem recv_of_checked (hgate : error = false ∨ f.control1 = 0) (hcrc : Claims.CrcGood cfg.poly f)
    (reasm : Bytes) : Claims.recv cfg error reasm raw = acceptFrame cfg error reasm f :=
  (recv_of_not_quarantined hp hpass hgate reasm).trans (if_neg (not_not.mpr hcrc))

end

theorem length_fragmentBase (reasm : Bytes) (f : Frame) :
    (fragmentBase reasm f).length = if f.control0 = 0 then 0 else reasm.length := by
  rw [fragmentBase, apply_ite List.length, List.length_nil]

/-! ### The ways out of `error = 1` (rule R228) -/

/-- From `error = 1` the frame that clears it is a LAST fragment past the filter: a fragment is gated, and a SINGLE
frame leaves `error` or sets it again. -/
theorem recv_error_eq_false_iff (cfg : Cfg) (reasm raw : Bytes) :
    (Claims.recv cfg true reasm raw).error = false ↔
      ∃ f, Claims.parse raw = some f ∧ Claims.Passes cfg f ∧ Claims.IsLast f := by
  cases hp : Claims.parse raw with
  | none => simp [recv_of_parse_none hp]
  | some f =>
    simp only [Option.some.injEq, exists_eq_left']
    by_cases hpass : Claims.Passes cfg f
    · by_cases h1 : f.control1 = 0
      · by_cases hcrc : Claims.CrcGood cfg.poly f
        · simp [recv_of_checked hp hpass (.inr h1) hcrc, acceptFrame_single h1, h1]
        · simp [recv_of_crc_bad hp hpass (.inr h1) hcrc, h1]
      · rw [recv_of_quarantined hp hpass h1, decide_eq_false_iff_not, not_not, and_iff_right hpass]
        exact (and_iff_right h1).symm
    · simp [recv_of_not_passes hp hpass, hpass]

/-- What a command decodes to, by its code (rule R80). -/
theorem decodeCmd_cases {code : BitVec 2} {data : Bytes} {dst : Byte} {i : Instr}
    (h : decodeCmd code data dst = .ok i) :
    (code = 0 ∧ i = .nop) ∨ (code = 1 ∧ i = .send data dst) ∨ (code = 2 ∧ i = .recv data) ∨
      (code = 3 ∧ i = .reset) := by
  unfold decodeCmd at h
  split_ifs at h with h0 h1 hpkt h2 hraw
  all_goals obtain rfl := Except.ok.inj h
  · exact .inl ⟨h0, rfl⟩
  · exact .inr (.inl ⟨h1, rfl⟩)
  · exact .inr (.inr (.inl ⟨h2, rfl⟩))
  · exact .inr (.inr (.inr ⟨by bv_omega, rfl⟩))

theorem exec_send_error {s t : State} {pkt : Bytes} {dst : Byte} (h : exec (.send pkt dst) s = .next t) :
    t.error = s.error := by
  by_cases hlen : pkt.length ≤ 255
  · obtain rfl := Host.Outcome.next.inj ((exec_send hlen dst s).symm.trans h)
    exact sendFrames_error (loadSend pkt dst s)
  · cases (if_neg hlen).symm.trans h

/-! ### The obligations -/

/-- Settles O45: a frame that fits is delivered or stored behind its base, which is empty for the first of a packet and
the buffer for the others. -/
theorem acceptRowsDeliverOrStore : Obligations.AcceptRowsDeliverOrStore := by
  refine fun s => ⟨fun h1 => ?_, fun h1 hc hroom => ?_, fun _ h0 hroom => ?_, fun _ h0 _ hroom => ?_⟩
  · rw [exec_delivered_single h1, dispose_delivered_single s ((frameClass_single_iff _ _).mpr h1)]
    rfl
  · have hbase : reasmBase s = s.reasm := reasmBase_of_control0_ne_zero (hc ▸ h1)
    rw [exec_delivered_of_fits h1 (hbase ▸ hroom),
      dispose_delivered_fragment s ((frameClass_ne_single_iff _).mpr h1), reasmAppended, hbase]
    rfl
  · have hbase : reasmBase s = [] := reasmBase_of_control0_eq_zero h0
    have hfits : (reasmBase s).length + s.frame.length.toNat ≤ s.cfg.reasmMax := by simpa [hbase] using hroom
    rw [exec_buffered_of_fits hfits, dispose_buffered, reasmAppended, hbase]
    rfl
  · have hbase : reasmBase s = s.reasm := reasmBase_of_control0_ne_zero h0
    rw [exec_buffered_of_fits (hbase ▸ hroom), dispose_buffered, reasmAppended, hbase]
    rfl

/-- Settles O52: under the conditions of each clause RECV's transition function is one row. -/
theorem recvPriority : Obligations.RecvPriority := by
  refine ⟨fun s raw hlen hp => ?_, fun s raw f hlen hp => ?_⟩
  · obtain ⟨t, ht, hleaves⟩ := exec_recv_leaves hlen s
    rw [recv_of_parse_none hp] at hleaves
    exact ⟨t, ht, hleaves.result, hleaves.error, hleaves.reasm⟩
  · obtain ⟨t, ht, hleaves⟩ := exec_recv_leaves hlen s
    refine ⟨t, ht, fun hpass => ?_, fun hpass he h1 => ?_, fun hpass hgate hcrc => ?_,
      fun hpass he h1 hcrc hover => ?_⟩
    · rw [recv_of_not_passes hp hpass] at hleaves
      exact ⟨hleaves.result, hleaves.error, hleaves.reasm⟩
    · rw [he, recv_of_quarantined hp hpass h1] at hleaves
      exact ⟨hleaves.result, hleaves.reasm, by simp [hleaves.error]⟩
    · rw [recv_of_crc_bad hp hpass hgate hcrc] at hleaves
      exact ⟨hleaves.result, hleaves.error, hleaves.reasm⟩
    · rw [← length_fragmentBase] at hover
      rw [recv_of_checked hp hpass (.inl he) hcrc, acceptFrame_overflow _ h1 hover] at hleaves
      exact ⟨hleaves.result, hleaves.reasm, by simp [hleaves.error, he]⟩

/-- Settles O55: NOP and SEND keep `error`, RESET clears it, and RECV clears it exactly for a LAST fragment past the
filter (`recv_error_eq_false_iff`). -/
theorem errorClearedInTwoWaysOnly : Obligations.ErrorClearedInTwoWaysOnly := by
  refine ⟨fun s t hhost hstep hset hclear => ?_, fun s raw f hset hlen hp hpass hlast => ?_,
    fun s => ⟨_, rfl, rfl⟩⟩
  · obtain ⟨-, rfl⟩ | ⟨tr, rest, i, hin, hdec, hexec⟩ := step_cases hstep
    · cases hset.symm.trans hclear
    have hpres : presentable tr = true := hhost tr (hin ▸ List.mem_cons_self)
    cases tr with
    | cmd code data dst =>
      obtain ⟨-, rfl⟩ | ⟨-, rfl⟩ | ⟨rfl, rfl⟩ | ⟨rfl, rfl⟩ := decodeCmd_cases hdec
      · obtain rfl := Host.Outcome.next.inj hexec
        cases hset.symm.trans hclear
      · cases hset.symm.trans ((exec_send_error hexec).symm.trans hclear)
      · have herror : (Claims.recv s.cfg s.error s.reasm data).error = false :=
          (recvLeaves_of_exec_recv hexec).error.symm.trans hclear
        rw [hset, recv_error_eq_false_iff] at herror
        obtain ⟨f, hlast⟩ := herror
        exact .inr ⟨data, dst, rest, f, hin, hlast⟩
      · exact .inl ⟨data, dst, rest, hin⟩
    | _ => cases hpres
  · obtain ⟨t, ht, hleaves⟩ := exec_recv_leaves hlen s
    rw [hset] at hleaves
    exact ⟨t, ht, hleaves.error.trans ((recv_error_eq_false_iff _ _ _).mpr ⟨f, hp, hpass, hlast⟩)⟩

/-- Settles O44: each row ends the RECV with its disposition, and what it makes of `error` is by the class LAST. -/
theorem dropRowsWriteWhatTheyList : Obligations.DropRowsWriteWhatTheyList := by
  refine fun s => ⟨rfl, ?_, rfl, ?_, rfl⟩
  · rw [exec_dropQuarantine, dispose_dropQuarantine, errorAfterQuarantine_eq]
    rfl
  · rw [exec_dropOverflow, dispose_dropOverflow, errorAfterOverflow_eq]
    rfl

end Sys2Proof.Machine

/-! SUPPORT. Proof of the statement about reset (70_reset_and_hazards.md, rules R250 and R251). -/

namespace Sys2Proof.Machine

/-- Settles O1: the values after reset are those of `State.resetWith`, and those after RESET are read off the state that
`resetOperationResult` names. -/
theorem resetLeavesInitialState : Obligations.ResetLeavesInitialState := by
  refine ⟨fun cfg => ?_, fun s => ⟨_, resetOperationResult s, ?_⟩, rfl, rfl⟩
  · exact ⟨rfl, rfl, rfl, rfl, rfl, rfl, rfl, rfl, rfl⟩
  · exact ⟨rfl, rfl, rfl, rfl, rfl, rfl, rfl, rfl, rfl⟩

end Sys2Proof.Machine
